-- ==== Sys2Proof/Word.lean ====
section
/-! DEFINITION. The two word types of the core (`00_scope.md` R7): the byte of registers and memory, and the
16-bit address. -/

namespace Sys2Proof

/-- u8: a register other than PC, a memory cell, an operand byte (R7). -/
abbrev Byte := BitVec 8

/-- u16: PC and every bus address (R7, `20_memory.md` R50). -/
abbrev Addr := BitVec 16

end Sys2Proof
end

