-- ==== Sys2Proof/Machine/Bits.lean ====
section
/-! DEFINITION. Byte order, bit fields and extensions (`00_scope.md` R10, `20_memory.md` R57). -/

namespace Sys2Proof.Machine

/-- `hi ++ lo`, the concatenation of two bytes into u16 (R10). -/
def concat (hi lo : Byte) : Addr := hi ++ lo

/-- `w[7:0]` (R9). -/
def lowByte (w : Addr) : Byte := w.extractLsb' 0 8

/-- `w[15:8]`, the page of an address (R9, `41_addressing.md` R134). -/
def highByte (w : Addr) : Byte := w.extractLsb' 8 8

/-- `zext_16(b)` (R10). -/
def zext16 (b : Byte) : Addr := b.setWidth 16

/-- `sext_16(b)`: b read as a two's-complement signed byte, widened to 16 bits (R10). -/
def sext16 (b : Byte) : Addr := b.signExtend 16

/-- `v[7]` of a byte, as a flag. -/
def bit7 (v : Byte) : Bool := v.getLsbD 7

/-- `v[6]` of a byte, as a flag. -/
def bit6 (v : Byte) : Bool := v.getLsbD 6

/-- `v[0]` of a byte, as a flag. -/
def bit0 (v : Byte) : Bool := v.getLsbD 0

/-- A flag as the number 0 or 1 (`bool(c)` of R10). -/
def bitNat (b : Bool) : Nat := if b then 1 else 0

/-- A flag as a byte whose bit `k` is the flag and whose other bits are 0. -/
def bitAt (b : Bool) (k : Nat) : Byte := if b then 1#8 <<< k else 0#8

/-- The page-crossing test of `41_addressing.md` R134: the two addresses differ in their high byte. -/
def pageCrossed (p q : Addr) : Bool := highByte p != highByte q

end Sys2Proof.Machine
end

