-- ==== Sys2Proof/Config.lean ====
section
/-! DEFINITION. What an implementation of the core fixes: the parameters of `00_scope.md` R8, each with the
default the spec uses, and the byte that memory reads as where nothing is listed. -/

namespace Sys2Proof

/-- The parameter `PUSH_B_MODE` (R8, D22): what PHP pushes in bit 4. -/
inductive PushBMode where
  /-- the stored B flag -/
  | stored
  /-- always 1, as NMOS silicon does -/
  | one
  deriving DecidableEq, Repr

/-- The parameters a model takes as arguments (R8), at the spec's defaults. The draw `power_on` is a type of its
own (`Sys2Proof.Machine.PowerOn`), because it holds registers and memory.

`implemented` gives `IMPLEMENTED_SET` (`40_dispatch.md` R113) as its membership test. Only a documented opcode
decodes, so the set is the documented opcodes this test accepts, and the default is all 151 (log entry 12). -/
structure Params where
  implemented : Byte → Bool := fun _ => true
  resetSp : Byte := 0xFF
  decimalArith : Bool := false
  jmpIndPageWrap : Bool := true
  pushBMode : PushBMode := .stored

/-- The parameters `exec` and `step` run with: every default of R8 (log entry 1: DESIGN CHOICE, unsafe for a core
built with other values; `Sys2Proof/Machine/Variants.lean` is that core). -/
def Config.params : Params := {}

/-- What a cell of the backing array that nothing lists reads as. The spec gives none (`power_on`, D6): DESIGN
CHOICE, unsafe, log entry 3. -/
def Config.unlistedByte : Byte := 0x00

end Sys2Proof
end

