-- ==== Sys2Proof/Machine/State.lean ====
section
/-! DEFINITION. The state of the core (`10_state.md` R20 to R36), the reasons a step stops, and the state after
reset. All of it is plain data. -/

namespace Sys2Proof.Machine

/-- The record of an unknown opcode: the byte read and the address it was read from (`60_exceptions.md` R301). -/
structure OpcodeFault where
  op : Byte
  addr : Addr
  deriving DecidableEq, Repr

/-- Why a cartridge image is malformed (`60_exceptions.md` R302), in the order of `20_memory.md` R64. -/
inductive MalformedReason where
  | truncatedHeader
  | badSignature
  | badFormatTag
  | reservedNonZero
  | unsupportedTrainer
  | unsupportedMapper
  | unsupportedBankCount
  | truncatedProgramData
  deriving DecidableEq, Repr

/-- The two faults of the block (`60_exceptions.md` R300). -/
inductive Fault where
  /-- Raised by a Fetch step whose opcode byte is outside `IMPLEMENTED_SET` (`40_dispatch.md` R106), and by every
  step while the core is halted (R107). Safe: it is the spec's own fault. -/
  | unimplementedOpcode (f : OpcodeFault)
  /-- Raised by the host operation `load` alone (`20_memory.md` R64), never by a step. Safe: the spec's own. -/
  | malformedCartridge (reason : MalformedReason)
  deriving DecidableEq, Repr

/-- Why the model answers no state. -/
inductive Refusal where
  /-- An instruction without a meaning in this model, rejected by name in `exec`. Safe. No arm uses it. -/
  | notModelled (mnemonic : String)
  /-- ADC or SBC with D = 1 in a core built with `DECIMAL_ARITH = true`, which `45_arith.md` R203 says must be
  refused. Safe. Under the default parameters no step answers it. -/
  | decimalArithmetic
  deriving DecidableEq, Repr

/-- The run state (`10_state.md` R33). -/
inductive RunState where
  | running
  | halted (f : OpcodeFault)
  deriving DecidableEq, Repr

/-- The seven stored flags of P (`10_state.md` R26). The forced bit 5 is not stored. -/
structure Flags where
  c : Bool
  z : Bool
  i : Bool
  d : Bool
  b : Bool
  v : Bool
  n : Bool
  deriving DecidableEq, Repr

/-- The backing array `mem[0..65535]` (`20_memory.md` R51): the cells that differ from what an unlisted cell reads
as (`Config.unlistedByte`), with strictly rising addresses (`Memory.wf`). -/
abbrev Memory := List Host.Cell

/-- The whole state of the block (`10_state.md` R20): "Nothing else is state." -/
structure State where
  a : Byte
  x : Byte
  y : Byte
  sp : Byte
  pc : Addr
  p : Flags
  pending : Nat
  run : RunState
  mem : Memory
  deriving DecidableEq, Repr

/-- The `power_on` draw (`00_scope.md` R8, D6): the registers, the flags and the backing array at power-on. -/
structure PowerOn where
  a : Byte
  x : Byte
  y : Byte
  sp : Byte
  pc : Addr
  p : Flags
  mem : Memory
  deriving DecidableEq, Repr

/-- The state right after power-on and `reset()` (`70_reset_and_hazards.md` R330, R331). The spec gives SP, `pending`,
`run`, and PC as the reset vector's word; A, X, Y, the flags and memory keep the power-on draw, for which this
state takes zeros and a memory with nothing listed (DESIGN CHOICE, unsafe, log entries 2 and 3), so that the
vector's word is 0x0000. -/
def State.reset : State where
  a := 0x00
  x := 0x00
  y := 0x00
  sp := 0xFF
  pc := 0x0000
  p := { c := false, z := false, i := false, d := false, b := false, v := false, n := false }
  pending := 0
  run := .running
  mem := []

end Sys2Proof.Machine
end

