-- ==== Sys2Proof/Machine/Flags.lean ====
section
/-! DEFINITION. The status register: pack and unpack (`10_state.md` R27, R28), and every flag computation of the
instruction rules. Each function names the flags it writes; the rest are unchanged (R31). -/

namespace Sys2Proof.Machine

/-- `Pack(bit4)` (R27): N V 1 bit4 D I Z C, bit 7 to bit 0. -/
def Flags.pack (p : Flags) (bit4 : Bool) : Byte :=
  bitAt p.n 7 ||| bitAt p.v 6 ||| bitAt true 5 ||| bitAt bit4 4 ||| bitAt p.d 3 ||| bitAt p.i 2 ||| bitAt p.z 1
    ||| bitAt p.c 0

/-- `Unpack(b)` (R28): all seven flags from a byte; bit 5 is discarded. -/
def Flags.unpack (b : Byte) : Flags where
  c := b.getLsbD 0
  z := b.getLsbD 1
  i := b.getLsbD 2
  d := b.getLsbD 3
  b := b.getLsbD 4
  v := b.getLsbD 6
  n := b.getLsbD 7

/-- Bit 4 of the byte PHP pushes (`44_stack.md` R178), by the parameter `PUSH_B_MODE`. -/
def Flags.pushedB (p : Flags) : PushBMode → Bool
  | .stored => p.b
  | .one => true

/-- `SetNZ(v)` (R30): Z and N from an 8-bit result. -/
def Flags.setNZ (p : Flags) (v : Byte) : Flags :=
  { p with z := v == 0, n := bit7 v }

/-- `AddWithCarry(a, m, c)` with the carry-in P.C (`45_arith.md` R190): the sum's low byte, and C, V, Z, N. -/
def Flags.addWithCarry (p : Flags) (a m : Byte) : Byte × Flags :=
  let s := a.toNat + m.toNat + bitNat p.c
  let r := BitVec.ofNat 8 s
  (r, { p with c := decide (s > 0xFF), v := ((a ^^^ r) &&& (m ^^^ r) &&& 0x80) != 0 }.setNZ r)

/-- The subtraction of SBC (`45_arith.md` R192): `AddWithCarry(a, ~m, c)`. -/
def Flags.subWithBorrow (p : Flags) (a m : Byte) : Byte × Flags :=
  p.addWithCarry a (~~~m)

/-- `Compare(reg, m)` (`45_arith.md` R193): C is the unsigned `reg >= m`, Z and N come from the difference. -/
def Flags.compare (p : Flags) (reg m : Byte) : Flags :=
  { p with c := decide (m.toNat ≤ reg.toNat) }.setNZ (reg - m)

/-- BIT's flags (`46_logic_shift.md` R223, C1): Z from `A & M`, N and V from bits 7 and 6 of M itself. -/
def Flags.bitTest (p : Flags) (a m : Byte) : Flags :=
  { p with z := (a &&& m) == 0, n := bit7 m, v := bit6 m }

/-- ASL (`46_logic_shift.md` R225). -/
def Flags.asl (p : Flags) (v : Byte) : Byte × Flags :=
  let r := v <<< 1
  (r, { p with c := bit7 v }.setNZ r)

/-- LSR (`46_logic_shift.md` R226). -/
def Flags.lsr (p : Flags) (v : Byte) : Byte × Flags :=
  let r := v >>> 1
  (r, { p with c := bit0 v }.setNZ r)

/-- ROL (`46_logic_shift.md` R227): the old carry enters at bit 0. -/
def Flags.rol (p : Flags) (v : Byte) : Byte × Flags :=
  let r := (v <<< 1) ||| bitAt p.c 0
  (r, { p with c := bit7 v }.setNZ r)

/-- ROR (`46_logic_shift.md` R228): the old carry enters at bit 7. -/
def Flags.ror (p : Flags) (v : Byte) : Byte × Flags :=
  let r := (v >>> 1) ||| bitAt p.c 7
  (r, { p with c := bit0 v }.setNZ r)

/-- INC on a memory operand (`45_arith.md` R197). -/
def Flags.inc (p : Flags) (v : Byte) : Byte × Flags :=
  (v + 1, p.setNZ (v + 1))

/-- DEC on a memory operand (`45_arith.md` R198). -/
def Flags.dec (p : Flags) (v : Byte) : Byte × Flags :=
  (v - 1, p.setNZ (v - 1))

end Sys2Proof.Machine
end

