-- ==== Sys2Proof/Machine/Ops.lean ====
section
/-! DEFINITION. The named operations every meaning is written over: the backing array and its canonical form, the
bus with its mirroring, register updates, the stack, the software trap and its return, and reset. -/

namespace Sys2Proof.Machine

/-! ### The backing array -/

/-- The byte of one cell of the backing array (`20_memory.md` R51). -/
def Memory.cell : Memory → Nat → Byte
  | [], _ => Config.unlistedByte
  | (k, v) :: rest, key => if k = key then v else Memory.cell rest key

/-- The array with one cell no longer listed. -/
def Memory.unlist (m : Memory) (key : Nat) : Memory :=
  m.filter (fun c => c.1 != key)

/-- A cell placed before the first one with a higher address. -/
def Memory.insert (cell : Host.Cell) : Memory → Memory
  | [] => [cell]
  | c :: rest => if cell.1 < c.1 then cell :: c :: rest else c :: Memory.insert cell rest

/-- One cell of the backing array written. Writing the byte an unlisted cell reads as removes the entry, so that
equal arrays are equal lists. -/
def Memory.store (m : Memory) (key : Nat) (v : Byte) : Memory :=
  if v = Config.unlistedByte then m.unlist key else Memory.insert (key, v) (m.unlist key)

/-- The canonical form: addresses strictly rise and lie in the 16-bit space (`20_memory.md` R50), and no entry says
what an unlisted cell reads as. -/
abbrev Memory.wf (m : Memory) : Prop :=
  m.Pairwise (fun c d => c.1 < d.1) ∧ ∀ c ∈ m, c.1 < 65536 ∧ c.2 ≠ Config.unlistedByte

/-! ### The bus -/

/-- Mirror resolution (`20_memory.md` R52): the canonical address of an address. -/
def resolve (a : Addr) : Addr :=
  if a < 0x2000 then a &&& 0x07FF
  else if a < 0x4000 then 0x2000 ||| (a &&& 0x0007)
  else a

/-- `MemRead(a, 1)` (`20_memory.md` R53). -/
def State.read (s : State) (a : Addr) : Byte :=
  s.mem.cell (resolve a).toNat

/-- `MemWrite(a, 1, v)` (`20_memory.md` R54); the program region is writable (D11). -/
def State.write (s : State) (a : Addr) (v : Byte) : State :=
  { s with mem := s.mem.store (resolve a).toNat v }

/-- `MemRead(a, 2)` (`20_memory.md` R55): little-endian, each byte resolved by itself, wrapping at 0xFFFF (D17). -/
def State.read16 (s : State) (a : Addr) : Addr :=
  concat (s.read (a + 1)) (s.read a)

/-- `MemWrite(a, 2, w)` (`20_memory.md` R56), part of the bus contract; no instruction uses it. -/
def State.write16 (s : State) (a : Addr) (w : Addr) : State :=
  (s.write a (lowByte w)).write (a + 1) (highByte w)

/-- Bytes written at consecutive addresses modulo 2^16, the first at `a`. -/
def State.writeBytes (s : State) (a : Addr) : List Byte → State
  | [] => s
  | v :: rest => (s.write a v).writeBytes (a + 1) rest

/-- `n` bytes read at consecutive addresses modulo 2^16, the first from `a`. -/
def State.readBytes (s : State) (a : Addr) : Nat → List Byte
  | 0 => []
  | n + 1 => s.read a :: s.readBytes (a + 1) n

/-! ### Registers -/

/-- `A <- v`. -/
def State.setA (s : State) (v : Byte) : State := { s with a := v }

/-- `X <- v`. -/
def State.setX (s : State) (v : Byte) : State := { s with x := v }

/-- `Y <- v`. -/
def State.setY (s : State) (v : Byte) : State := { s with y := v }

/-- `SP <- v`. -/
def State.setSp (s : State) (v : Byte) : State := { s with sp := v }

/-- `PC <- w`. -/
def State.setPc (s : State) (w : Addr) : State := { s with pc := w }

/-- The status register's flags replaced. -/
def State.setP (s : State) (p : Flags) : State := { s with p := p }

/-- `SetNZ(v)` (`10_state.md` R30). -/
def State.setNZ (s : State) (v : Byte) : State := s.setP (s.p.setNZ v)

/-- PC moved past `n` fetched bytes, modulo 2^16 (`40_dispatch.md` R101, R104, D16). -/
def State.advance (s : State) (n : Nat) : State := { s with pc := s.pc + BitVec.ofNat 16 n }

/-- The instruction reports its cost: `pending <- cost - 1` (`40_dispatch.md` R101). -/
def State.stall (s : State) (cost : Nat) : State := { s with pending := cost - 1 }

/-- `pending <- n` (`10_state.md` R32). -/
def State.setPending (s : State) (n : Nat) : State := { s with pending := n }

/-- `run <- Halted(f)` (`40_dispatch.md` R106). -/
def State.halt (s : State) (f : OpcodeFault) : State := { s with run := .halted f }

/-! ### The stack -/

/-- `stack_address()` for a stack offset (`44_stack.md` R170). -/
def stackAddr (sp : Byte) : Addr := 0x0100 + zext16 sp

/-- `Push(v)` (`44_stack.md` R171, C3): write at the current SP, then decrement modulo 2^8. -/
def State.push (s : State) (v : Byte) : State :=
  (s.write (stackAddr s.sp) v).setSp (s.sp - 1)

/-- `Pop()` (`44_stack.md` R172): increment modulo 2^8, then read. -/
def State.pop (s : State) : Byte × State :=
  (s.read (stackAddr (s.sp + 1)), s.setSp (s.sp + 1))

/-- `Push16(w)` (`44_stack.md` R173): high byte first, at the higher address. -/
def State.push16 (s : State) (w : Addr) : State :=
  (s.push (highByte w)).push (lowByte w)

/-- `Pop16()` (`44_stack.md` R174). -/
def State.pop16 (s : State) : Addr × State :=
  let (lo, s1) := s.pop
  let (hi, s2) := s1.pop
  (concat hi lo, s2)

/-! ### The software trap and its return -/

/-- The reset vector's address (`20_memory.md` R62, D9). -/
def resetVector : Addr := 0xFFFC

/-- The BRK vector's address (`20_memory.md` R62, D9). -/
def brkVector : Addr := 0xFFFE

/-- Taking the software trap (`60_exceptions.md` R305, `48_flags_system.md` R288): the return address is pushed, B set,
the status byte pushed with bits 5 and 4 at 1, I set, and control goes to the BRK vector's word. D is not
cleared (D24). -/
def State.takeTrap (s : State) (returnAddr : Addr) : State :=
  let s1 := s.push16 returnAddr
  let s2 := s1.setP { s1.p with b := true }
  let s3 := s2.push (s2.p.pack true)
  let s4 := s3.setP { s3.p with i := true }
  s4.setPc (s4.read16 brkVector)

/-- Returning from the trap (`60_exceptions.md` R308, `48_flags_system.md` R289): all seven flags from the popped byte,
then PC from the popped word, with no 1 added. -/
def State.returnFromTrap (s : State) : State :=
  let (b, s1) := s.pop
  let (w, s2) := (s1.setP (Flags.unpack b)).pop16
  s2.setPc w

/-! ### Reset -/

/-- `reset()` (`70_reset_and_hazards.md` R331). A, X, Y, the flags and memory are unchanged (D5). -/
def State.resetOp (s : State) (resetSp : Byte) : State :=
  { s with sp := resetSp, pc := s.read16 resetVector, pending := 0, run := .running }

/-- Power-on (`70_reset_and_hazards.md` R330): everything from the draw, `pending` 0, `Running`; no vector is read. -/
def powerOn (d : PowerOn) : State where
  a := d.a
  x := d.x
  y := d.y
  sp := d.sp
  pc := d.pc
  p := d.p
  pending := 0
  run := .running
  mem := d.mem

end Sys2Proof.Machine
end

