-- ==== Sys2Proof/Machine/Operands.lean ====
section
/-! DEFINITION. The addressing-mode resolvers (`41_addressing.md` R120 to R133), the page-cross penalty (R134, R135),
and the shapes of instruction the meanings are instances of: class R, W and M accesses (R136), the
accumulator forms, the implied forms and the relative forms.

A meaning runs in the state whose PC is the address of its opcode byte; the shape moves PC past the instruction's
bytes (log entry 6). -/

namespace Sys2Proof.Machine

/-- An operand in memory: the mode with its operand bytes. -/
inductive MemMode where
  /-- `zp` (R122) -/
  | zp (z : Byte)
  /-- `zp,X` (R123) -/
  | zpX (z : Byte)
  /-- `zp,Y` (R124) -/
  | zpY (z : Byte)
  /-- `abs` (R125) -/
  | abs (w : Addr)
  /-- `abs,X` (R126) -/
  | absX (w : Addr)
  /-- `abs,Y` (R127) -/
  | absY (w : Addr)
  /-- `(zp,X)` (R128) -/
  | indX (z : Byte)
  /-- `(zp),Y` (R129) -/
  | indY (z : Byte)
  deriving DecidableEq, Repr

/-- The operand of a class R instruction: the immediate byte, or a byte of memory. -/
inductive Operand where
  /-- `#imm` (R121) -/
  | imm (v : Byte)
  | mem (m : MemMode)
  deriving DecidableEq, Repr

/-- The pointer in the zero page at offset `z`: its high byte is read with the offset wrapped inside the page
(R128, R129, D18). -/
def State.zpPointer (s : State) (z : Byte) : Addr :=
  concat (s.read (zext16 (z + 1))) (s.read (zext16 z))

/-- The address before the index register is added in the modes that can cross a page; the effective address
itself in the others. -/
def MemMode.base (s : State) : MemMode → Addr
  | .zp z => zext16 z
  | .zpX z => zext16 (z + s.x)
  | .zpY z => zext16 (z + s.y)
  | .abs w => w
  | .absX w => w
  | .absY w => w
  | .indX z => s.zpPointer (z + s.x)
  | .indY z => s.zpPointer z

/-- The effective address `ea` (R122 to R129). Zero-page sums wrap inside the page (D18), absolute ones modulo 2^16
(D16). -/
def MemMode.ea (s : State) : MemMode → Addr
  | .zp z => zext16 z
  | .zpX z => zext16 (z + s.x)
  | .zpY z => zext16 (z + s.y)
  | .abs w => w
  | .absX w => w + zext16 s.x
  | .absY w => w + zext16 s.y
  | .indX z => s.zpPointer (z + s.x)
  | .indY z => s.zpPointer z + zext16 s.y

/-- The resolver's `crossed` (R120): false but for abs,X, abs,Y and (zp),Y, where the high byte of the base differs
from that of the effective address. -/
def MemMode.crossed (s : State) (m : MemMode) : Bool :=
  pageCrossed (m.base s) (m.ea s)

/-- How many operand bytes the mode fetches (`30_encoding.md` R81). -/
def MemMode.operandBytes : MemMode → Nat
  | .zp _ => 1
  | .zpX _ => 1
  | .zpY _ => 1
  | .abs _ => 2
  | .absX _ => 2
  | .absY _ => 2
  | .indX _ => 1
  | .indY _ => 1

/-- How many operand bytes the operand takes (`30_encoding.md` R81). -/
def Operand.operandBytes : Operand → Nat
  | .imm _ => 1
  | .mem m => m.operandBytes

/-- `Operand(m)` of class R (R136): the immediate, or the byte at the effective address. -/
def Operand.value (s : State) : Operand → Byte
  | .imm v => v
  | .mem m => s.read (m.ea s)

/-- The page-cross penalty of class R (R135): 1 when the resolver crossed a page. Classes W and M have none. -/
def Operand.penalty (s : State) : Operand → Nat
  | .imm _ => 0
  | .mem m => bitNat (m.crossed s)

/-- Where JMP (abs) reads the high byte of its target (R130), by the parameter `JMP_IND_PAGE_WRAP`. -/
def indirectHighAddr (pageWrap : Bool) (ptr : Addr) : Addr :=
  if pageWrap then (ptr &&& 0xFF00) ||| ((ptr + 1) &&& 0x00FF) else ptr + 1

/-- The target of JMP (abs) (R130). -/
def State.indirectTarget (s : State) (pageWrap : Bool) (ptr : Addr) : Addr :=
  concat (s.read (indirectHighAddr pageWrap ptr)) (s.read ptr)

/-! ### Instruction shapes -/

/-- The result type of a meaning. -/
abbrev Result := Host.Outcome State Fault Refusal

/-- A class R instruction: the operand is read, `f` is its effect, and the cost is the base count plus the
page-cross penalty (R135, R136). -/
def readExec (o : Operand) (cycles : Nat) (f : Byte → State → State) (s : State) : Result :=
  .next ((f (o.value s) (s.advance (1 + o.operandBytes))).stall (cycles + o.penalty s))

/-- A class W instruction: `v` is written at the effective address, which is never read (R136). -/
def writeExec (m : MemMode) (cycles : Nat) (v : Byte) (s : State) : Result :=
  .next (((s.advance (1 + m.operandBytes)).write (m.ea s) v).stall cycles)

/-- A class M instruction in a memory mode: read, modify, write the same effective address (R136). -/
def modifyExec (m : MemMode) (cycles : Nat) (f : Flags → Byte → Byte × Flags) (s : State) : Result :=
  let (r, p) := f s.p (s.read (m.ea s))
  .next ((((s.advance (1 + m.operandBytes)).write (m.ea s) r).setP p).stall cycles)

/-- The accumulator form of a shift or rotate (R132, `46_logic_shift.md` R224). -/
def accExec (cycles : Nat) (f : Flags → Byte → Byte × Flags) (s : State) : Result :=
  let (r, p) := f s.p s.a
  .next ((((s.advance 1).setA r).setP p).stall cycles)

/-- An implied instruction of one byte: `f` is its effect (R133). -/
def impliedExec (cycles : Nat) (f : State → State) (s : State) : Result :=
  .next ((f (s.advance 1)).stall cycles)

end Sys2Proof.Machine
end

