-- ==== Sys2Proof/Machine/LoadStore.lean ====
section
/-! DEFINITION. Loads and stores (`42_load_store.md` R140 to R145): the meaning of each instruction, one definition a row of
`opcode_table.json`, over the shapes of `Operands.lean`. -/

namespace Sys2Proof.Machine

/-- The effect of LDA (R140): `A <- v; SetNZ(v)`. -/
def State.loadA (v : Byte) (s : State) : State := (s.setA v).setNZ v

/-- The effect of LDX (R141): `X <- v; SetNZ(v)`. -/
def State.loadX (v : Byte) (s : State) : State := (s.setX v).setNZ v

/-- The effect of LDY (R142): `Y <- v; SetNZ(v)`. -/
def State.loadY (v : Byte) (s : State) : State := (s.setY v).setNZ v

/-- LDA #: 0xA9, R140. -/
def execLdaImm (v : Byte) (s : State) : Result :=
  readExec (.imm v) 2 State.loadA s

/-- LDA zp: 0xA5, R140. -/
def execLdaZp (z : Byte) (s : State) : Result :=
  readExec (.mem (.zp z)) 3 State.loadA s

/-- LDA zp,X: 0xB5, R140. -/
def execLdaZpX (z : Byte) (s : State) : Result :=
  readExec (.mem (.zpX z)) 4 State.loadA s

/-- LDA abs: 0xAD, R140. -/
def execLdaAbs (w : Addr) (s : State) : Result :=
  readExec (.mem (.abs w)) 4 State.loadA s

/-- LDA abs,X: 0xBD, R140. -/
def execLdaAbsX (w : Addr) (s : State) : Result :=
  readExec (.mem (.absX w)) 4 State.loadA s

/-- LDA abs,Y: 0xB9, R140. -/
def execLdaAbsY (w : Addr) (s : State) : Result :=
  readExec (.mem (.absY w)) 4 State.loadA s

/-- LDA (zp,X): 0xA1, R140. -/
def execLdaIndX (z : Byte) (s : State) : Result :=
  readExec (.mem (.indX z)) 6 State.loadA s

/-- LDA (zp),Y: 0xB1, R140. -/
def execLdaIndY (z : Byte) (s : State) : Result :=
  readExec (.mem (.indY z)) 5 State.loadA s

/-- LDX #: 0xA2, R141. -/
def execLdxImm (v : Byte) (s : State) : Result :=
  readExec (.imm v) 2 State.loadX s

/-- LDX zp: 0xA6, R141. -/
def execLdxZp (z : Byte) (s : State) : Result :=
  readExec (.mem (.zp z)) 3 State.loadX s

/-- LDX zp,Y: 0xB6, R141. -/
def execLdxZpY (z : Byte) (s : State) : Result :=
  readExec (.mem (.zpY z)) 4 State.loadX s

/-- LDX abs: 0xAE, R141. -/
def execLdxAbs (w : Addr) (s : State) : Result :=
  readExec (.mem (.abs w)) 4 State.loadX s

/-- LDX abs,Y: 0xBE, R141. -/
def execLdxAbsY (w : Addr) (s : State) : Result :=
  readExec (.mem (.absY w)) 4 State.loadX s

/-- LDY #: 0xA0, R142. -/
def execLdyImm (v : Byte) (s : State) : Result :=
  readExec (.imm v) 2 State.loadY s

/-- LDY zp: 0xA4, R142. -/
def execLdyZp (z : Byte) (s : State) : Result :=
  readExec (.mem (.zp z)) 3 State.loadY s

/-- LDY zp,X: 0xB4, R142. -/
def execLdyZpX (z : Byte) (s : State) : Result :=
  readExec (.mem (.zpX z)) 4 State.loadY s

/-- LDY abs: 0xAC, R142. -/
def execLdyAbs (w : Addr) (s : State) : Result :=
  readExec (.mem (.abs w)) 4 State.loadY s

/-- LDY abs,X: 0xBC, R142. -/
def execLdyAbsX (w : Addr) (s : State) : Result :=
  readExec (.mem (.absX w)) 4 State.loadY s

/-- STA zp: 0x85, R143. -/
def execStaZp (z : Byte) (s : State) : Result :=
  writeExec (.zp z) 3 s.a s

/-- STA zp,X: 0x95, R143. -/
def execStaZpX (z : Byte) (s : State) : Result :=
  writeExec (.zpX z) 4 s.a s

/-- STA abs: 0x8D, R143. -/
def execStaAbs (w : Addr) (s : State) : Result :=
  writeExec (.abs w) 4 s.a s

/-- STA abs,X: 0x9D, R143. -/
def execStaAbsX (w : Addr) (s : State) : Result :=
  writeExec (.absX w) 5 s.a s

/-- STA abs,Y: 0x99, R143. -/
def execStaAbsY (w : Addr) (s : State) : Result :=
  writeExec (.absY w) 5 s.a s

/-- STA (zp,X): 0x81, R143. -/
def execStaIndX (z : Byte) (s : State) : Result :=
  writeExec (.indX z) 6 s.a s

/-- STA (zp),Y: 0x91, R143. -/
def execStaIndY (z : Byte) (s : State) : Result :=
  writeExec (.indY z) 6 s.a s

/-- STX zp: 0x86, R144. -/
def execStxZp (z : Byte) (s : State) : Result :=
  writeExec (.zp z) 3 s.x s

/-- STX zp,Y: 0x96, R144. -/
def execStxZpY (z : Byte) (s : State) : Result :=
  writeExec (.zpY z) 4 s.x s

/-- STX abs: 0x8E, R144. -/
def execStxAbs (w : Addr) (s : State) : Result :=
  writeExec (.abs w) 4 s.x s

/-- STY zp: 0x84, R145. -/
def execStyZp (z : Byte) (s : State) : Result :=
  writeExec (.zp z) 3 s.y s

/-- STY zp,X: 0x94, R145. -/
def execStyZpX (z : Byte) (s : State) : Result :=
  writeExec (.zpX z) 4 s.y s

/-- STY abs: 0x8C, R145. -/
def execStyAbs (w : Addr) (s : State) : Result :=
  writeExec (.abs w) 4 s.y s

end Sys2Proof.Machine
end

