-- ==== Sys2Proof/Machine/Arith.lean ====
section
/-! DEFINITION. Arithmetic, compare, increment and decrement (`45_arith.md` R190 to R203): the meaning of each instruction, one definition a row of
`opcode_table.json`, over the shapes of `Operands.lean`. -/

namespace Sys2Proof.Machine

/-- The effect of ADC (R191): `A <- AddWithCarry(A, M, P.C)`. -/
def State.addA (m : Byte) (s : State) : State :=
  let (r, p) := s.p.addWithCarry s.a m
  (s.setA r).setP p

/-- The effect of SBC (R192): `A <- AddWithCarry(A, ~M, P.C)`. -/
def State.subA (m : Byte) (s : State) : State :=
  let (r, p) := s.p.subWithBorrow s.a m
  (s.setA r).setP p

/-- ADC in a core with a choice of `DECIMAL_ARITH` (R191, R203): binary when it is false; when it is true there is no
rule for D = 1 and the step is refused. -/
def adcWith (decimalArith : Bool) (o : Operand) (cycles : Nat) (s : State) : Result :=
  if decimalArith && s.p.d then .refused .decimalArithmetic else readExec o cycles State.addA s

/-- SBC in a core with a choice of `DECIMAL_ARITH` (R192, R203). -/
def sbcWith (decimalArith : Bool) (o : Operand) (cycles : Nat) (s : State) : Result :=
  if decimalArith && s.p.d then .refused .decimalArithmetic else readExec o cycles State.subA s

/-- The effect of CMP (R194): `Compare(A, M)`. -/
def State.compareA (m : Byte) (s : State) : State := s.setP (s.p.compare s.a m)

/-- The effect of CPX (R195): `Compare(X, M)`. -/
def State.compareX (m : Byte) (s : State) : State := s.setP (s.p.compare s.x m)

/-- The effect of CPY (R196): `Compare(Y, M)`. -/
def State.compareY (m : Byte) (s : State) : State := s.setP (s.p.compare s.y m)

/-- ADC #: 0x69, R191. -/
def execAdcImm (v : Byte) (s : State) : Result :=
  adcWith Config.params.decimalArith (.imm v) 2 s

/-- ADC zp: 0x65, R191. -/
def execAdcZp (z : Byte) (s : State) : Result :=
  adcWith Config.params.decimalArith (.mem (.zp z)) 3 s

/-- ADC zp,X: 0x75, R191. -/
def execAdcZpX (z : Byte) (s : State) : Result :=
  adcWith Config.params.decimalArith (.mem (.zpX z)) 4 s

/-- ADC abs: 0x6D, R191. -/
def execAdcAbs (w : Addr) (s : State) : Result :=
  adcWith Config.params.decimalArith (.mem (.abs w)) 4 s

/-- ADC abs,X: 0x7D, R191. -/
def execAdcAbsX (w : Addr) (s : State) : Result :=
  adcWith Config.params.decimalArith (.mem (.absX w)) 4 s

/-- ADC abs,Y: 0x79, R191. -/
def execAdcAbsY (w : Addr) (s : State) : Result :=
  adcWith Config.params.decimalArith (.mem (.absY w)) 4 s

/-- ADC (zp,X): 0x61, R191. -/
def execAdcIndX (z : Byte) (s : State) : Result :=
  adcWith Config.params.decimalArith (.mem (.indX z)) 6 s

/-- ADC (zp),Y: 0x71, R191. -/
def execAdcIndY (z : Byte) (s : State) : Result :=
  adcWith Config.params.decimalArith (.mem (.indY z)) 5 s

/-- SBC #: 0xE9, R192. -/
def execSbcImm (v : Byte) (s : State) : Result :=
  sbcWith Config.params.decimalArith (.imm v) 2 s

/-- SBC zp: 0xE5, R192. -/
def execSbcZp (z : Byte) (s : State) : Result :=
  sbcWith Config.params.decimalArith (.mem (.zp z)) 3 s

/-- SBC zp,X: 0xF5, R192. -/
def execSbcZpX (z : Byte) (s : State) : Result :=
  sbcWith Config.params.decimalArith (.mem (.zpX z)) 4 s

/-- SBC abs: 0xED, R192. -/
def execSbcAbs (w : Addr) (s : State) : Result :=
  sbcWith Config.params.decimalArith (.mem (.abs w)) 4 s

/-- SBC abs,X: 0xFD, R192. -/
def execSbcAbsX (w : Addr) (s : State) : Result :=
  sbcWith Config.params.decimalArith (.mem (.absX w)) 4 s

/-- SBC abs,Y: 0xF9, R192. -/
def execSbcAbsY (w : Addr) (s : State) : Result :=
  sbcWith Config.params.decimalArith (.mem (.absY w)) 4 s

/-- SBC (zp,X): 0xE1, R192. -/
def execSbcIndX (z : Byte) (s : State) : Result :=
  sbcWith Config.params.decimalArith (.mem (.indX z)) 6 s

/-- SBC (zp),Y: 0xF1, R192. -/
def execSbcIndY (z : Byte) (s : State) : Result :=
  sbcWith Config.params.decimalArith (.mem (.indY z)) 5 s

/-- CMP #: 0xC9, R194. -/
def execCmpImm (v : Byte) (s : State) : Result :=
  readExec (.imm v) 2 State.compareA s

/-- CMP zp: 0xC5, R194. -/
def execCmpZp (z : Byte) (s : State) : Result :=
  readExec (.mem (.zp z)) 3 State.compareA s

/-- CMP zp,X: 0xD5, R194. -/
def execCmpZpX (z : Byte) (s : State) : Result :=
  readExec (.mem (.zpX z)) 4 State.compareA s

/-- CMP abs: 0xCD, R194. -/
def execCmpAbs (w : Addr) (s : State) : Result :=
  readExec (.mem (.abs w)) 4 State.compareA s

/-- CMP abs,X: 0xDD, R194. -/
def execCmpAbsX (w : Addr) (s : State) : Result :=
  readExec (.mem (.absX w)) 4 State.compareA s

/-- CMP abs,Y: 0xD9, R194. -/
def execCmpAbsY (w : Addr) (s : State) : Result :=
  readExec (.mem (.absY w)) 4 State.compareA s

/-- CMP (zp,X): 0xC1, R194. -/
def execCmpIndX (z : Byte) (s : State) : Result :=
  readExec (.mem (.indX z)) 6 State.compareA s

/-- CMP (zp),Y: 0xD1, R194. -/
def execCmpIndY (z : Byte) (s : State) : Result :=
  readExec (.mem (.indY z)) 5 State.compareA s

/-- CPX #: 0xE0, R195. -/
def execCpxImm (v : Byte) (s : State) : Result :=
  readExec (.imm v) 2 State.compareX s

/-- CPX zp: 0xE4, R195. -/
def execCpxZp (z : Byte) (s : State) : Result :=
  readExec (.mem (.zp z)) 3 State.compareX s

/-- CPX abs: 0xEC, R195. -/
def execCpxAbs (w : Addr) (s : State) : Result :=
  readExec (.mem (.abs w)) 4 State.compareX s

/-- CPY #: 0xC0, R196. -/
def execCpyImm (v : Byte) (s : State) : Result :=
  readExec (.imm v) 2 State.compareY s

/-- CPY zp: 0xC4, R196. -/
def execCpyZp (z : Byte) (s : State) : Result :=
  readExec (.mem (.zp z)) 3 State.compareY s

/-- CPY abs: 0xCC, R196. -/
def execCpyAbs (w : Addr) (s : State) : Result :=
  readExec (.mem (.abs w)) 4 State.compareY s

/-- INC zp: 0xE6, R197. -/
def execIncZp (z : Byte) (s : State) : Result :=
  modifyExec (.zp z) 5 Flags.inc s

/-- INC zp,X: 0xF6, R197. -/
def execIncZpX (z : Byte) (s : State) : Result :=
  modifyExec (.zpX z) 6 Flags.inc s

/-- INC abs: 0xEE, R197. -/
def execIncAbs (w : Addr) (s : State) : Result :=
  modifyExec (.abs w) 6 Flags.inc s

/-- INC abs,X: 0xFE, R197. -/
def execIncAbsX (w : Addr) (s : State) : Result :=
  modifyExec (.absX w) 7 Flags.inc s

/-- DEC zp: 0xC6, R198. -/
def execDecZp (z : Byte) (s : State) : Result :=
  modifyExec (.zp z) 5 Flags.dec s

/-- DEC zp,X: 0xD6, R198. -/
def execDecZpX (z : Byte) (s : State) : Result :=
  modifyExec (.zpX z) 6 Flags.dec s

/-- DEC abs: 0xCE, R198. -/
def execDecAbs (w : Addr) (s : State) : Result :=
  modifyExec (.abs w) 6 Flags.dec s

/-- DEC abs,X: 0xDE, R198. -/
def execDecAbsX (w : Addr) (s : State) : Result :=
  modifyExec (.absX w) 7 Flags.dec s

/-- INX: 0xE8, R199. -/
def execInx (s : State) : Result :=
  impliedExec 2 (fun t => t.loadX (t.x + 1)) s

/-- INY: 0xC8, R200. -/
def execIny (s : State) : Result :=
  impliedExec 2 (fun t => t.loadY (t.y + 1)) s

/-- DEX: 0xCA, R201. -/
def execDex (s : State) : Result :=
  impliedExec 2 (fun t => t.loadX (t.x - 1)) s

/-- DEY: 0x88, R202. -/
def execDey (s : State) : Result :=
  impliedExec 2 (fun t => t.loadY (t.y - 1)) s

end Sys2Proof.Machine
end

