-- ==== Sys2Proof/Machine/Control.lean ====
section
/-! DEFINITION. Branches, jumps, subroutine call and return (`47_control.md` R250 to R262): the meaning of each instruction, one definition a row of
`opcode_table.json`, over the shapes of `Operands.lean`. -/

namespace Sys2Proof.Machine

/-- `next`, the address after a branch's displacement byte (R131). -/
def State.branchNext (s : State) : Addr := s.pc + 2

/-- The target of a branch (R131): `next` plus the sign-extended displacement, modulo 2^16. -/
def State.branchTarget (s : State) (d : Byte) : Addr := s.branchNext + sext16 d

/-- `MaybeBranch(cond)` (R250): taken, PC goes to the target, for 1 cycle more and another 1 when the page of `next`
differs from the target's (D21); not taken, PC stays at `next`. No flag is written. -/
def branchExec (cycles : Nat) (cond : Bool) (d : Byte) (s : State) : Result :=
  if cond then
    .next ((s.setPc (s.branchTarget d)).stall (cycles + 1 + bitNat (pageCrossed s.branchNext (s.branchTarget d))))
  else
    .next ((s.setPc s.branchNext).stall cycles)

/-- JMP (abs) under a choice of `JMP_IND_PAGE_WRAP` (R260, R130). -/
def jmpIndWith (pageWrap : Bool) (ptr : Addr) (s : State) : Result :=
  .next ((s.setPc (s.indirectTarget pageWrap ptr)).stall 5)

/-- The effect of JSR (R261), in the state whose PC is the address of the instruction's last byte: that address is
pushed, and control goes to the target. -/
def State.call (s : State) (target : Addr) : State := (s.push16 s.pc).setPc target

/-- The effect of RTS (R262): `PC <- (Pop16() + 1) mod 2^16`. -/
def State.returnSub (s : State) : State :=
  let (w, t) := s.pop16
  t.setPc (w + 1)

/-- BCC rel: 0x90, R251. -/
def execBcc (d : Byte) (s : State) : Result :=
  branchExec 2 (!s.p.c) d s

/-- BCS rel: 0xB0, R252. -/
def execBcs (d : Byte) (s : State) : Result :=
  branchExec 2 s.p.c d s

/-- BEQ rel: 0xF0, R253. -/
def execBeq (d : Byte) (s : State) : Result :=
  branchExec 2 s.p.z d s

/-- BNE rel: 0xD0, R254. -/
def execBne (d : Byte) (s : State) : Result :=
  branchExec 2 (!s.p.z) d s

/-- BMI rel: 0x30, R255. -/
def execBmi (d : Byte) (s : State) : Result :=
  branchExec 2 s.p.n d s

/-- BPL rel: 0x10, R256. -/
def execBpl (d : Byte) (s : State) : Result :=
  branchExec 2 (!s.p.n) d s

/-- BVC rel: 0x50, R257. -/
def execBvc (d : Byte) (s : State) : Result :=
  branchExec 2 (!s.p.v) d s

/-- BVS rel: 0x70, R258. -/
def execBvs (d : Byte) (s : State) : Result :=
  branchExec 2 s.p.v d s

/-- JMP abs: 0x4C, R259. -/
def execJmpAbs (w : Addr) (s : State) : Result :=
  .next ((s.setPc w).stall 3)

/-- JMP (abs): 0x6C, R260. -/
def execJmpInd (ptr : Addr) (s : State) : Result :=
  jmpIndWith Config.params.jmpIndPageWrap ptr s

/-- JSR abs: 0x20, R261. The high address byte is read before the push, which the decoded operand says. -/
def execJsr (w : Addr) (s : State) : Result :=
  .next (((s.advance 2).call w).stall 6)

/-- RTS: 0x60, R262. -/
def execRts (s : State) : Result :=
  impliedExec 6 State.returnSub s

end Sys2Proof.Machine
end

