-- ==== Sys2Proof/Machine/Logic.lean ====
section
/-! DEFINITION. Logic and bit test (`46_logic_shift.md` R220 to R223): the meaning of each instruction, one definition a row of
`opcode_table.json`, over the shapes of `Operands.lean`. -/

namespace Sys2Proof.Machine

/-- The effect of AND (R220): `A <- A & M; SetNZ(A)`. -/
def State.andA (m : Byte) (s : State) : State := s.loadA (s.a &&& m)

/-- The effect of ORA (R221): `A <- A | M; SetNZ(A)`. -/
def State.orA (m : Byte) (s : State) : State := s.loadA (s.a ||| m)

/-- The effect of EOR (R222): `A <- A ^ M; SetNZ(A)`. -/
def State.eorA (m : Byte) (s : State) : State := s.loadA (s.a ^^^ m)

/-- The effect of BIT (R223): flags only. -/
def State.bitA (m : Byte) (s : State) : State := s.setP (s.p.bitTest s.a m)

/-- AND #: 0x29, R220. -/
def execAndImm (v : Byte) (s : State) : Result :=
  readExec (.imm v) 2 State.andA s

/-- AND zp: 0x25, R220. -/
def execAndZp (z : Byte) (s : State) : Result :=
  readExec (.mem (.zp z)) 3 State.andA s

/-- AND zp,X: 0x35, R220. -/
def execAndZpX (z : Byte) (s : State) : Result :=
  readExec (.mem (.zpX z)) 4 State.andA s

/-- AND abs: 0x2D, R220. -/
def execAndAbs (w : Addr) (s : State) : Result :=
  readExec (.mem (.abs w)) 4 State.andA s

/-- AND abs,X: 0x3D, R220. -/
def execAndAbsX (w : Addr) (s : State) : Result :=
  readExec (.mem (.absX w)) 4 State.andA s

/-- AND abs,Y: 0x39, R220. -/
def execAndAbsY (w : Addr) (s : State) : Result :=
  readExec (.mem (.absY w)) 4 State.andA s

/-- AND (zp,X): 0x21, R220. -/
def execAndIndX (z : Byte) (s : State) : Result :=
  readExec (.mem (.indX z)) 6 State.andA s

/-- AND (zp),Y: 0x31, R220. -/
def execAndIndY (z : Byte) (s : State) : Result :=
  readExec (.mem (.indY z)) 5 State.andA s

/-- ORA #: 0x09, R221. -/
def execOraImm (v : Byte) (s : State) : Result :=
  readExec (.imm v) 2 State.orA s

/-- ORA zp: 0x05, R221. -/
def execOraZp (z : Byte) (s : State) : Result :=
  readExec (.mem (.zp z)) 3 State.orA s

/-- ORA zp,X: 0x15, R221. -/
def execOraZpX (z : Byte) (s : State) : Result :=
  readExec (.mem (.zpX z)) 4 State.orA s

/-- ORA abs: 0x0D, R221. -/
def execOraAbs (w : Addr) (s : State) : Result :=
  readExec (.mem (.abs w)) 4 State.orA s

/-- ORA abs,X: 0x1D, R221. -/
def execOraAbsX (w : Addr) (s : State) : Result :=
  readExec (.mem (.absX w)) 4 State.orA s

/-- ORA abs,Y: 0x19, R221. -/
def execOraAbsY (w : Addr) (s : State) : Result :=
  readExec (.mem (.absY w)) 4 State.orA s

/-- ORA (zp,X): 0x01, R221. -/
def execOraIndX (z : Byte) (s : State) : Result :=
  readExec (.mem (.indX z)) 6 State.orA s

/-- ORA (zp),Y: 0x11, R221. -/
def execOraIndY (z : Byte) (s : State) : Result :=
  readExec (.mem (.indY z)) 5 State.orA s

/-- EOR #: 0x49, R222. -/
def execEorImm (v : Byte) (s : State) : Result :=
  readExec (.imm v) 2 State.eorA s

/-- EOR zp: 0x45, R222. -/
def execEorZp (z : Byte) (s : State) : Result :=
  readExec (.mem (.zp z)) 3 State.eorA s

/-- EOR zp,X: 0x55, R222. -/
def execEorZpX (z : Byte) (s : State) : Result :=
  readExec (.mem (.zpX z)) 4 State.eorA s

/-- EOR abs: 0x4D, R222. -/
def execEorAbs (w : Addr) (s : State) : Result :=
  readExec (.mem (.abs w)) 4 State.eorA s

/-- EOR abs,X: 0x5D, R222. -/
def execEorAbsX (w : Addr) (s : State) : Result :=
  readExec (.mem (.absX w)) 4 State.eorA s

/-- EOR abs,Y: 0x59, R222. -/
def execEorAbsY (w : Addr) (s : State) : Result :=
  readExec (.mem (.absY w)) 4 State.eorA s

/-- EOR (zp,X): 0x41, R222. -/
def execEorIndX (z : Byte) (s : State) : Result :=
  readExec (.mem (.indX z)) 6 State.eorA s

/-- EOR (zp),Y: 0x51, R222. -/
def execEorIndY (z : Byte) (s : State) : Result :=
  readExec (.mem (.indY z)) 5 State.eorA s

/-- BIT zp: 0x24, R223. -/
def execBitZp (z : Byte) (s : State) : Result :=
  readExec (.mem (.zp z)) 3 State.bitA s

/-- BIT abs: 0x2C, R223. -/
def execBitAbs (w : Addr) (s : State) : Result :=
  readExec (.mem (.abs w)) 4 State.bitA s

end Sys2Proof.Machine
end

