-- ==== Sys2Proof/Machine/Shift.lean ====
section
/-! DEFINITION. Shifts and rotates (`46_logic_shift.md` R224 to R228): the meaning of each instruction, one definition a row of
`opcode_table.json`, over the shapes of `Operands.lean`. -/

namespace Sys2Proof.Machine

/-- ASL A: 0x0A, R225. -/
def execAslAcc (s : State) : Result :=
  accExec 2 Flags.asl s

/-- ASL zp: 0x06, R225. -/
def execAslZp (z : Byte) (s : State) : Result :=
  modifyExec (.zp z) 5 Flags.asl s

/-- ASL zp,X: 0x16, R225. -/
def execAslZpX (z : Byte) (s : State) : Result :=
  modifyExec (.zpX z) 6 Flags.asl s

/-- ASL abs: 0x0E, R225. -/
def execAslAbs (w : Addr) (s : State) : Result :=
  modifyExec (.abs w) 6 Flags.asl s

/-- ASL abs,X: 0x1E, R225. -/
def execAslAbsX (w : Addr) (s : State) : Result :=
  modifyExec (.absX w) 7 Flags.asl s

/-- LSR A: 0x4A, R226. -/
def execLsrAcc (s : State) : Result :=
  accExec 2 Flags.lsr s

/-- LSR zp: 0x46, R226. -/
def execLsrZp (z : Byte) (s : State) : Result :=
  modifyExec (.zp z) 5 Flags.lsr s

/-- LSR zp,X: 0x56, R226. -/
def execLsrZpX (z : Byte) (s : State) : Result :=
  modifyExec (.zpX z) 6 Flags.lsr s

/-- LSR abs: 0x4E, R226. -/
def execLsrAbs (w : Addr) (s : State) : Result :=
  modifyExec (.abs w) 6 Flags.lsr s

/-- LSR abs,X: 0x5E, R226. -/
def execLsrAbsX (w : Addr) (s : State) : Result :=
  modifyExec (.absX w) 7 Flags.lsr s

/-- ROL A: 0x2A, R227. -/
def execRolAcc (s : State) : Result :=
  accExec 2 Flags.rol s

/-- ROL zp: 0x26, R227. -/
def execRolZp (z : Byte) (s : State) : Result :=
  modifyExec (.zp z) 5 Flags.rol s

/-- ROL zp,X: 0x36, R227. -/
def execRolZpX (z : Byte) (s : State) : Result :=
  modifyExec (.zpX z) 6 Flags.rol s

/-- ROL abs: 0x2E, R227. -/
def execRolAbs (w : Addr) (s : State) : Result :=
  modifyExec (.abs w) 6 Flags.rol s

/-- ROL abs,X: 0x3E, R227. -/
def execRolAbsX (w : Addr) (s : State) : Result :=
  modifyExec (.absX w) 7 Flags.rol s

/-- ROR A: 0x6A, R228. -/
def execRorAcc (s : State) : Result :=
  accExec 2 Flags.ror s

/-- ROR zp: 0x66, R228. -/
def execRorZp (z : Byte) (s : State) : Result :=
  modifyExec (.zp z) 5 Flags.ror s

/-- ROR zp,X: 0x76, R228. -/
def execRorZpX (z : Byte) (s : State) : Result :=
  modifyExec (.zpX z) 6 Flags.ror s

/-- ROR abs: 0x6E, R228. -/
def execRorAbs (w : Addr) (s : State) : Result :=
  modifyExec (.abs w) 6 Flags.ror s

/-- ROR abs,X: 0x7E, R228. -/
def execRorAbsX (w : Addr) (s : State) : Result :=
  modifyExec (.absX w) 7 Flags.ror s

end Sys2Proof.Machine
end

