-- ==== Sys2Proof/Machine/Stack.lean ====
section
/-! DEFINITION. The push and pull instructions (`44_stack.md` R177 to R180): the meaning of each instruction, one definition a row of
`opcode_table.json`, over the shapes of `Operands.lean`. -/

namespace Sys2Proof.Machine

/-- PHP under a choice of `PUSH_B_MODE` (R178): the byte pushed has bit 5 at 1 and bit 4 by the parameter. -/
def phpWith (mode : PushBMode) (s : State) : Result :=
  impliedExec 3 (fun t => t.push (t.p.pack (t.p.pushedB mode))) s

/-- The effect of PLA (R179): `v <- Pop(); A <- v; SetNZ(v)`. -/
def State.pullA (s : State) : State :=
  let (v, t) := s.pop
  t.loadA v

/-- The effect of PLP (R180): `Unpack(Pop())`. -/
def State.pullP (s : State) : State :=
  let (v, t) := s.pop
  t.setP (Flags.unpack v)

/-- PHA: 0x48, R177. -/
def execPha (s : State) : Result :=
  impliedExec 3 (fun t => t.push t.a) s

/-- PHP: 0x08, R178. -/
def execPhp (s : State) : Result :=
  phpWith Config.params.pushBMode s

/-- PLA: 0x68, R179. -/
def execPla (s : State) : Result :=
  impliedExec 4 State.pullA s

/-- PLP: 0x28, R180. -/
def execPlp (s : State) : Result :=
  impliedExec 4 State.pullP s

end Sys2Proof.Machine
end

