-- ==== Sys2Proof/Machine/System.lean ====
section
/-! DEFINITION. Flag instructions, NOP, BRK and RTI (`48_flags_system.md` R280 to R289): the meaning of each instruction, one definition a row of
`opcode_table.json`, over the shapes of `Operands.lean`. -/

namespace Sys2Proof.Machine

/-- CLC: 0x18, R280. -/
def execClc (s : State) : Result :=
  impliedExec 2 (fun t => t.setP { t.p with c := false }) s

/-- SEC: 0x38, R281. -/
def execSec (s : State) : Result :=
  impliedExec 2 (fun t => t.setP { t.p with c := true }) s

/-- CLI: 0x58, R282. -/
def execCli (s : State) : Result :=
  impliedExec 2 (fun t => t.setP { t.p with i := false }) s

/-- SEI: 0x78, R283. -/
def execSei (s : State) : Result :=
  impliedExec 2 (fun t => t.setP { t.p with i := true }) s

/-- CLD: 0xD8, R284. -/
def execCld (s : State) : Result :=
  impliedExec 2 (fun t => t.setP { t.p with d := false }) s

/-- SED: 0xF8, R285. -/
def execSed (s : State) : Result :=
  impliedExec 2 (fun t => t.setP { t.p with d := true }) s

/-- CLV: 0xB8, R286. -/
def execClv (s : State) : Result :=
  impliedExec 2 (fun t => t.setP { t.p with v := false }) s

/-- NOP: 0xEA, R287. -/
def execNop (s : State) : Result :=
  impliedExec 2 (fun t => t) s

/-- BRK: 0x00, R288. The trap is taken with the return address past the padding byte. -/
def execBrk (s : State) : Result :=
  .next (((s.advance 2).takeTrap (s.pc + 2)).stall 7)

/-- RTI: 0x40, R289. Taken as the shared return from the trap. -/
def execRti (s : State) : Result :=
  impliedExec 6 State.returnFromTrap s

end Sys2Proof.Machine
end

