-- ==== Sys2Proof/Machine/Transfer.lean ====
section
/-! DEFINITION. Register transfers (`43_transfer.md` R160 to R165): the meaning of each instruction, one definition a row of
`opcode_table.json`, over the shapes of `Operands.lean`. -/

namespace Sys2Proof.Machine

/-- TAX: 0xAA, R160. -/
def execTax (s : State) : Result :=
  impliedExec 2 (fun t => t.loadX t.a) s

/-- TAY: 0xA8, R161. -/
def execTay (s : State) : Result :=
  impliedExec 2 (fun t => t.loadY t.a) s

/-- TXA: 0x8A, R162. -/
def execTxa (s : State) : Result :=
  impliedExec 2 (fun t => t.loadA t.x) s

/-- TYA: 0x98, R163. -/
def execTya (s : State) : Result :=
  impliedExec 2 (fun t => t.loadA t.y) s

/-- TSX: 0xBA, R164. -/
def execTsx (s : State) : Result :=
  impliedExec 2 (fun t => t.loadX t.sp) s

/-- TXS: 0x9A, R165. -/
def execTxs (s : State) : Result :=
  impliedExec 2 (fun t => t.setSp t.x) s

end Sys2Proof.Machine
end

