-- ==== Sys2Proof/Syntax.lean ====
section
/-! DEFINITION. The instructions: one constructor for each of the 151 rows of `opcode_table.json` (`30_encoding.md`
R86), carrying its operand bytes as `30_encoding.md` R81 to R85 assemble them. A `z` is a zero-page offset, a `w` an absolute
address, a `ptr` a pointer, a `v` an immediate, a `d` a displacement. BRK's padding byte is no operand (R81). -/

namespace Sys2Proof

inductive Instr where
  | ldaImm (v : Byte)
  | ldaZp (z : Byte)
  | ldaZpX (z : Byte)
  | ldaAbs (w : Addr)
  | ldaAbsX (w : Addr)
  | ldaAbsY (w : Addr)
  | ldaIndX (z : Byte)
  | ldaIndY (z : Byte)
  | ldxImm (v : Byte)
  | ldxZp (z : Byte)
  | ldxZpY (z : Byte)
  | ldxAbs (w : Addr)
  | ldxAbsY (w : Addr)
  | ldyImm (v : Byte)
  | ldyZp (z : Byte)
  | ldyZpX (z : Byte)
  | ldyAbs (w : Addr)
  | ldyAbsX (w : Addr)
  | staZp (z : Byte)
  | staZpX (z : Byte)
  | staAbs (w : Addr)
  | staAbsX (w : Addr)
  | staAbsY (w : Addr)
  | staIndX (z : Byte)
  | staIndY (z : Byte)
  | stxZp (z : Byte)
  | stxZpY (z : Byte)
  | stxAbs (w : Addr)
  | styZp (z : Byte)
  | styZpX (z : Byte)
  | styAbs (w : Addr)
  | tax
  | tay
  | txa
  | tya
  | tsx
  | txs
  | pha
  | php
  | pla
  | plp
  | adcImm (v : Byte)
  | adcZp (z : Byte)
  | adcZpX (z : Byte)
  | adcAbs (w : Addr)
  | adcAbsX (w : Addr)
  | adcAbsY (w : Addr)
  | adcIndX (z : Byte)
  | adcIndY (z : Byte)
  | sbcImm (v : Byte)
  | sbcZp (z : Byte)
  | sbcZpX (z : Byte)
  | sbcAbs (w : Addr)
  | sbcAbsX (w : Addr)
  | sbcAbsY (w : Addr)
  | sbcIndX (z : Byte)
  | sbcIndY (z : Byte)
  | cmpImm (v : Byte)
  | cmpZp (z : Byte)
  | cmpZpX (z : Byte)
  | cmpAbs (w : Addr)
  | cmpAbsX (w : Addr)
  | cmpAbsY (w : Addr)
  | cmpIndX (z : Byte)
  | cmpIndY (z : Byte)
  | cpxImm (v : Byte)
  | cpxZp (z : Byte)
  | cpxAbs (w : Addr)
  | cpyImm (v : Byte)
  | cpyZp (z : Byte)
  | cpyAbs (w : Addr)
  | incZp (z : Byte)
  | incZpX (z : Byte)
  | incAbs (w : Addr)
  | incAbsX (w : Addr)
  | decZp (z : Byte)
  | decZpX (z : Byte)
  | decAbs (w : Addr)
  | decAbsX (w : Addr)
  | inx
  | iny
  | dex
  | dey
  | andImm (v : Byte)
  | andZp (z : Byte)
  | andZpX (z : Byte)
  | andAbs (w : Addr)
  | andAbsX (w : Addr)
  | andAbsY (w : Addr)
  | andIndX (z : Byte)
  | andIndY (z : Byte)
  | oraImm (v : Byte)
  | oraZp (z : Byte)
  | oraZpX (z : Byte)
  | oraAbs (w : Addr)
  | oraAbsX (w : Addr)
  | oraAbsY (w : Addr)
  | oraIndX (z : Byte)
  | oraIndY (z : Byte)
  | eorImm (v : Byte)
  | eorZp (z : Byte)
  | eorZpX (z : Byte)
  | eorAbs (w : Addr)
  | eorAbsX (w : Addr)
  | eorAbsY (w : Addr)
  | eorIndX (z : Byte)
  | eorIndY (z : Byte)
  | bitZp (z : Byte)
  | bitAbs (w : Addr)
  | aslAcc
  | aslZp (z : Byte)
  | aslZpX (z : Byte)
  | aslAbs (w : Addr)
  | aslAbsX (w : Addr)
  | lsrAcc
  | lsrZp (z : Byte)
  | lsrZpX (z : Byte)
  | lsrAbs (w : Addr)
  | lsrAbsX (w : Addr)
  | rolAcc
  | rolZp (z : Byte)
  | rolZpX (z : Byte)
  | rolAbs (w : Addr)
  | rolAbsX (w : Addr)
  | rorAcc
  | rorZp (z : Byte)
  | rorZpX (z : Byte)
  | rorAbs (w : Addr)
  | rorAbsX (w : Addr)
  | bcc (d : Byte)
  | bcs (d : Byte)
  | beq (d : Byte)
  | bne (d : Byte)
  | bmi (d : Byte)
  | bpl (d : Byte)
  | bvc (d : Byte)
  | bvs (d : Byte)
  | jmpAbs (w : Addr)
  | jmpInd (ptr : Addr)
  | jsr (w : Addr)
  | rts
  | clc
  | sec
  | cli
  | sei
  | cld
  | sed
  | clv
  | nop
  | brk
  | rti
  deriving DecidableEq, Repr

end Sys2Proof
end

