-- ==== Sys2Proof/Decode.lean ====
section
/-! DEFINITION. The decoder and the encoder. Decoding is by table (`30_encoding.md` R86): the opcode byte selects a row,
and the row says which operand bytes follow (R80, R81). The table is written in the sixteen rows of R86. -/

namespace Sys2Proof

open Sys2Proof.Machine

/-- What follows the opcode byte, with the constructor the operand goes to (R81). -/
inductive Format where
  /-- no operand byte -/
  | implied (i : Instr)
  /-- one padding byte, skipped (BRK) -/
  | padded (i : Instr)
  /-- byte1 -/
  | byte (f : Byte → Instr)
  /-- byte1 the low byte, byte2 the high byte (R85) -/
  | word (f : Addr → Instr)

/-- The length of an instruction of the format, its opcode byte included (R81). -/
def Format.length : Format → Nat
  | .implied _ => 1
  | .padded _ => 2
  | .byte _ => 2
  | .word _ => 3

/-- One cell of the opcode map. -/
structure OpcodeRow where
  opcode : Byte
  format : Format

/-- Row 0x of the opcode map (R86). -/
def opcodeRow0 : List OpcodeRow :=
  [ ⟨0x00, .padded .brk⟩,
    ⟨0x01, .byte .oraIndX⟩,
    ⟨0x05, .byte .oraZp⟩,
    ⟨0x06, .byte .aslZp⟩,
    ⟨0x08, .implied .php⟩,
    ⟨0x09, .byte .oraImm⟩,
    ⟨0x0A, .implied .aslAcc⟩,
    ⟨0x0D, .word .oraAbs⟩,
    ⟨0x0E, .word .aslAbs⟩ ]

/-- Row 1x of the opcode map (R86). -/
def opcodeRow1 : List OpcodeRow :=
  [ ⟨0x10, .byte .bpl⟩,
    ⟨0x11, .byte .oraIndY⟩,
    ⟨0x15, .byte .oraZpX⟩,
    ⟨0x16, .byte .aslZpX⟩,
    ⟨0x18, .implied .clc⟩,
    ⟨0x19, .word .oraAbsY⟩,
    ⟨0x1D, .word .oraAbsX⟩,
    ⟨0x1E, .word .aslAbsX⟩ ]

/-- Row 2x of the opcode map (R86). -/
def opcodeRow2 : List OpcodeRow :=
  [ ⟨0x20, .word .jsr⟩,
    ⟨0x21, .byte .andIndX⟩,
    ⟨0x24, .byte .bitZp⟩,
    ⟨0x25, .byte .andZp⟩,
    ⟨0x26, .byte .rolZp⟩,
    ⟨0x28, .implied .plp⟩,
    ⟨0x29, .byte .andImm⟩,
    ⟨0x2A, .implied .rolAcc⟩,
    ⟨0x2C, .word .bitAbs⟩,
    ⟨0x2D, .word .andAbs⟩,
    ⟨0x2E, .word .rolAbs⟩ ]

/-- Row 3x of the opcode map (R86). -/
def opcodeRow3 : List OpcodeRow :=
  [ ⟨0x30, .byte .bmi⟩,
    ⟨0x31, .byte .andIndY⟩,
    ⟨0x35, .byte .andZpX⟩,
    ⟨0x36, .byte .rolZpX⟩,
    ⟨0x38, .implied .sec⟩,
    ⟨0x39, .word .andAbsY⟩,
    ⟨0x3D, .word .andAbsX⟩,
    ⟨0x3E, .word .rolAbsX⟩ ]

/-- Row 4x of the opcode map (R86). -/
def opcodeRow4 : List OpcodeRow :=
  [ ⟨0x40, .implied .rti⟩,
    ⟨0x41, .byte .eorIndX⟩,
    ⟨0x45, .byte .eorZp⟩,
    ⟨0x46, .byte .lsrZp⟩,
    ⟨0x48, .implied .pha⟩,
    ⟨0x49, .byte .eorImm⟩,
    ⟨0x4A, .implied .lsrAcc⟩,
    ⟨0x4C, .word .jmpAbs⟩,
    ⟨0x4D, .word .eorAbs⟩,
    ⟨0x4E, .word .lsrAbs⟩ ]

/-- Row 5x of the opcode map (R86). -/
def opcodeRow5 : List OpcodeRow :=
  [ ⟨0x50, .byte .bvc⟩,
    ⟨0x51, .byte .eorIndY⟩,
    ⟨0x55, .byte .eorZpX⟩,
    ⟨0x56, .byte .lsrZpX⟩,
    ⟨0x58, .implied .cli⟩,
    ⟨0x59, .word .eorAbsY⟩,
    ⟨0x5D, .word .eorAbsX⟩,
    ⟨0x5E, .word .lsrAbsX⟩ ]

/-- Row 6x of the opcode map (R86). -/
def opcodeRow6 : List OpcodeRow :=
  [ ⟨0x60, .implied .rts⟩,
    ⟨0x61, .byte .adcIndX⟩,
    ⟨0x65, .byte .adcZp⟩,
    ⟨0x66, .byte .rorZp⟩,
    ⟨0x68, .implied .pla⟩,
    ⟨0x69, .byte .adcImm⟩,
    ⟨0x6A, .implied .rorAcc⟩,
    ⟨0x6C, .word .jmpInd⟩,
    ⟨0x6D, .word .adcAbs⟩,
    ⟨0x6E, .word .rorAbs⟩ ]

/-- Row 7x of the opcode map (R86). -/
def opcodeRow7 : List OpcodeRow :=
  [ ⟨0x70, .byte .bvs⟩,
    ⟨0x71, .byte .adcIndY⟩,
    ⟨0x75, .byte .adcZpX⟩,
    ⟨0x76, .byte .rorZpX⟩,
    ⟨0x78, .implied .sei⟩,
    ⟨0x79, .word .adcAbsY⟩,
    ⟨0x7D, .word .adcAbsX⟩,
    ⟨0x7E, .word .rorAbsX⟩ ]

/-- Row 8x of the opcode map (R86). -/
def opcodeRow8 : List OpcodeRow :=
  [ ⟨0x81, .byte .staIndX⟩,
    ⟨0x84, .byte .styZp⟩,
    ⟨0x85, .byte .staZp⟩,
    ⟨0x86, .byte .stxZp⟩,
    ⟨0x88, .implied .dey⟩,
    ⟨0x8A, .implied .txa⟩,
    ⟨0x8C, .word .styAbs⟩,
    ⟨0x8D, .word .staAbs⟩,
    ⟨0x8E, .word .stxAbs⟩ ]

/-- Row 9x of the opcode map (R86). -/
def opcodeRow9 : List OpcodeRow :=
  [ ⟨0x90, .byte .bcc⟩,
    ⟨0x91, .byte .staIndY⟩,
    ⟨0x94, .byte .styZpX⟩,
    ⟨0x95, .byte .staZpX⟩,
    ⟨0x96, .byte .stxZpY⟩,
    ⟨0x98, .implied .tya⟩,
    ⟨0x99, .word .staAbsY⟩,
    ⟨0x9A, .implied .txs⟩,
    ⟨0x9D, .word .staAbsX⟩ ]

/-- Row Ax of the opcode map (R86). -/
def opcodeRowA : List OpcodeRow :=
  [ ⟨0xA0, .byte .ldyImm⟩,
    ⟨0xA1, .byte .ldaIndX⟩,
    ⟨0xA2, .byte .ldxImm⟩,
    ⟨0xA4, .byte .ldyZp⟩,
    ⟨0xA5, .byte .ldaZp⟩,
    ⟨0xA6, .byte .ldxZp⟩,
    ⟨0xA8, .implied .tay⟩,
    ⟨0xA9, .byte .ldaImm⟩,
    ⟨0xAA, .implied .tax⟩,
    ⟨0xAC, .word .ldyAbs⟩,
    ⟨0xAD, .word .ldaAbs⟩,
    ⟨0xAE, .word .ldxAbs⟩ ]

/-- Row Bx of the opcode map (R86). -/
def opcodeRowB : List OpcodeRow :=
  [ ⟨0xB0, .byte .bcs⟩,
    ⟨0xB1, .byte .ldaIndY⟩,
    ⟨0xB4, .byte .ldyZpX⟩,
    ⟨0xB5, .byte .ldaZpX⟩,
    ⟨0xB6, .byte .ldxZpY⟩,
    ⟨0xB8, .implied .clv⟩,
    ⟨0xB9, .word .ldaAbsY⟩,
    ⟨0xBA, .implied .tsx⟩,
    ⟨0xBC, .word .ldyAbsX⟩,
    ⟨0xBD, .word .ldaAbsX⟩,
    ⟨0xBE, .word .ldxAbsY⟩ ]

/-- Row Cx of the opcode map (R86). -/
def opcodeRowC : List OpcodeRow :=
  [ ⟨0xC0, .byte .cpyImm⟩,
    ⟨0xC1, .byte .cmpIndX⟩,
    ⟨0xC4, .byte .cpyZp⟩,
    ⟨0xC5, .byte .cmpZp⟩,
    ⟨0xC6, .byte .decZp⟩,
    ⟨0xC8, .implied .iny⟩,
    ⟨0xC9, .byte .cmpImm⟩,
    ⟨0xCA, .implied .dex⟩,
    ⟨0xCC, .word .cpyAbs⟩,
    ⟨0xCD, .word .cmpAbs⟩,
    ⟨0xCE, .word .decAbs⟩ ]

/-- Row Dx of the opcode map (R86). -/
def opcodeRowD : List OpcodeRow :=
  [ ⟨0xD0, .byte .bne⟩,
    ⟨0xD1, .byte .cmpIndY⟩,
    ⟨0xD5, .byte .cmpZpX⟩,
    ⟨0xD6, .byte .decZpX⟩,
    ⟨0xD8, .implied .cld⟩,
    ⟨0xD9, .word .cmpAbsY⟩,
    ⟨0xDD, .word .cmpAbsX⟩,
    ⟨0xDE, .word .decAbsX⟩ ]

/-- Row Ex of the opcode map (R86). -/
def opcodeRowE : List OpcodeRow :=
  [ ⟨0xE0, .byte .cpxImm⟩,
    ⟨0xE1, .byte .sbcIndX⟩,
    ⟨0xE4, .byte .cpxZp⟩,
    ⟨0xE5, .byte .sbcZp⟩,
    ⟨0xE6, .byte .incZp⟩,
    ⟨0xE8, .implied .inx⟩,
    ⟨0xE9, .byte .sbcImm⟩,
    ⟨0xEA, .implied .nop⟩,
    ⟨0xEC, .word .cpxAbs⟩,
    ⟨0xED, .word .sbcAbs⟩,
    ⟨0xEE, .word .incAbs⟩ ]

/-- Row Fx of the opcode map (R86). -/
def opcodeRowF : List OpcodeRow :=
  [ ⟨0xF0, .byte .beq⟩,
    ⟨0xF1, .byte .sbcIndY⟩,
    ⟨0xF5, .byte .sbcZpX⟩,
    ⟨0xF6, .byte .incZpX⟩,
    ⟨0xF8, .implied .sed⟩,
    ⟨0xF9, .word .sbcAbsY⟩,
    ⟨0xFD, .word .sbcAbsX⟩,
    ⟨0xFE, .word .incAbsX⟩ ]

/-- The opcode map (R86): 151 cells. -/
def opcodeTable : List OpcodeRow :=
  opcodeRow0 ++ opcodeRow1 ++ opcodeRow2 ++ opcodeRow3 ++ opcodeRow4 ++ opcodeRow5 ++ opcodeRow6 ++ opcodeRow7
    ++ opcodeRow8 ++ opcodeRow9 ++ opcodeRowA ++ opcodeRowB ++ opcodeRowC ++ opcodeRowD ++ opcodeRowE ++ opcodeRowF

/-- The format of an opcode byte in a list of rows; none where no row has it. -/
def formatIn : List OpcodeRow → Byte → Option Format
  | [], _ => none
  | r :: rest, op => if r.opcode = op then some r.format else formatIn rest op

/-- The format of an opcode byte; none for the 105 values without an instruction (R87). -/
def formatOf (op : Byte) : Option Format := formatIn opcodeTable op

/-- Why a list of bytes is no instruction. -/
inductive DecodeError where
  /-- no byte at all -/
  | noOpcode
  /-- the opcode byte is one of the 105 values of R87 -/
  | undocumentedOpcode (op : Byte)
  /-- the list ends before the operand bytes of the opcode do -/
  | missingOperand (op : Byte)
  deriving DecidableEq, Repr

/-- The operand bytes of a format taken from a list: the instruction and the bytes after it. The padding byte of BRK
is dropped unread, present or not (`48_flags_system.md` R288). -/
def Format.read (op : Byte) : Format → List Byte → Except DecodeError (Instr × List Byte)
  | .implied i, rest => .ok (i, rest)
  | .padded i, rest => .ok (i, rest.drop 1)
  | .byte f, b1 :: rest => .ok (f b1, rest)
  | .byte _, [] => .error (.missingOperand op)
  | .word f, b1 :: b2 :: rest => .ok (f (concat b2 b1), rest)
  | .word _, _ => .error (.missingOperand op)

/-- The decoder: total on any list of bytes; the instruction at its head and the bytes after it, or why there is
none. -/
def decode : List Byte → Except DecodeError (Instr × List Byte)
  | [] => .error .noOpcode
  | op :: rest =>
    match formatOf op with
    | none => .error (.undocumentedOpcode op)
    | some f => f.read op rest

/-! ### The encoder -/

/-- An opcode followed by an address, low byte first (`30_encoding.md` R85, `20_memory.md` R57). -/
def withWord (op : Byte) (w : Addr) : List Byte := [op, lowByte w, highByte w]

/-- The bytes of an instruction, from `30_encoding.md` R81 and the encodings of the instruction rules. BRK's padding byte
is written as 0x00 (log entry 8). -/
def encode : Instr → List Byte
  | .ldaImm v => [0xA9, v]
  | .ldaZp z => [0xA5, z]
  | .ldaZpX z => [0xB5, z]
  | .ldaAbs w => withWord 0xAD w
  | .ldaAbsX w => withWord 0xBD w
  | .ldaAbsY w => withWord 0xB9 w
  | .ldaIndX z => [0xA1, z]
  | .ldaIndY z => [0xB1, z]
  | .ldxImm v => [0xA2, v]
  | .ldxZp z => [0xA6, z]
  | .ldxZpY z => [0xB6, z]
  | .ldxAbs w => withWord 0xAE w
  | .ldxAbsY w => withWord 0xBE w
  | .ldyImm v => [0xA0, v]
  | .ldyZp z => [0xA4, z]
  | .ldyZpX z => [0xB4, z]
  | .ldyAbs w => withWord 0xAC w
  | .ldyAbsX w => withWord 0xBC w
  | .staZp z => [0x85, z]
  | .staZpX z => [0x95, z]
  | .staAbs w => withWord 0x8D w
  | .staAbsX w => withWord 0x9D w
  | .staAbsY w => withWord 0x99 w
  | .staIndX z => [0x81, z]
  | .staIndY z => [0x91, z]
  | .stxZp z => [0x86, z]
  | .stxZpY z => [0x96, z]
  | .stxAbs w => withWord 0x8E w
  | .styZp z => [0x84, z]
  | .styZpX z => [0x94, z]
  | .styAbs w => withWord 0x8C w
  | .tax => [0xAA]
  | .tay => [0xA8]
  | .txa => [0x8A]
  | .tya => [0x98]
  | .tsx => [0xBA]
  | .txs => [0x9A]
  | .pha => [0x48]
  | .php => [0x08]
  | .pla => [0x68]
  | .plp => [0x28]
  | .adcImm v => [0x69, v]
  | .adcZp z => [0x65, z]
  | .adcZpX z => [0x75, z]
  | .adcAbs w => withWord 0x6D w
  | .adcAbsX w => withWord 0x7D w
  | .adcAbsY w => withWord 0x79 w
  | .adcIndX z => [0x61, z]
  | .adcIndY z => [0x71, z]
  | .sbcImm v => [0xE9, v]
  | .sbcZp z => [0xE5, z]
  | .sbcZpX z => [0xF5, z]
  | .sbcAbs w => withWord 0xED w
  | .sbcAbsX w => withWord 0xFD w
  | .sbcAbsY w => withWord 0xF9 w
  | .sbcIndX z => [0xE1, z]
  | .sbcIndY z => [0xF1, z]
  | .cmpImm v => [0xC9, v]
  | .cmpZp z => [0xC5, z]
  | .cmpZpX z => [0xD5, z]
  | .cmpAbs w => withWord 0xCD w
  | .cmpAbsX w => withWord 0xDD w
  | .cmpAbsY w => withWord 0xD9 w
  | .cmpIndX z => [0xC1, z]
  | .cmpIndY z => [0xD1, z]
  | .cpxImm v => [0xE0, v]
  | .cpxZp z => [0xE4, z]
  | .cpxAbs w => withWord 0xEC w
  | .cpyImm v => [0xC0, v]
  | .cpyZp z => [0xC4, z]
  | .cpyAbs w => withWord 0xCC w
  | .incZp z => [0xE6, z]
  | .incZpX z => [0xF6, z]
  | .incAbs w => withWord 0xEE w
  | .incAbsX w => withWord 0xFE w
  | .decZp z => [0xC6, z]
  | .decZpX z => [0xD6, z]
  | .decAbs w => withWord 0xCE w
  | .decAbsX w => withWord 0xDE w
  | .inx => [0xE8]
  | .iny => [0xC8]
  | .dex => [0xCA]
  | .dey => [0x88]
  | .andImm v => [0x29, v]
  | .andZp z => [0x25, z]
  | .andZpX z => [0x35, z]
  | .andAbs w => withWord 0x2D w
  | .andAbsX w => withWord 0x3D w
  | .andAbsY w => withWord 0x39 w
  | .andIndX z => [0x21, z]
  | .andIndY z => [0x31, z]
  | .oraImm v => [0x09, v]
  | .oraZp z => [0x05, z]
  | .oraZpX z => [0x15, z]
  | .oraAbs w => withWord 0x0D w
  | .oraAbsX w => withWord 0x1D w
  | .oraAbsY w => withWord 0x19 w
  | .oraIndX z => [0x01, z]
  | .oraIndY z => [0x11, z]
  | .eorImm v => [0x49, v]
  | .eorZp z => [0x45, z]
  | .eorZpX z => [0x55, z]
  | .eorAbs w => withWord 0x4D w
  | .eorAbsX w => withWord 0x5D w
  | .eorAbsY w => withWord 0x59 w
  | .eorIndX z => [0x41, z]
  | .eorIndY z => [0x51, z]
  | .bitZp z => [0x24, z]
  | .bitAbs w => withWord 0x2C w
  | .aslAcc => [0x0A]
  | .aslZp z => [0x06, z]
  | .aslZpX z => [0x16, z]
  | .aslAbs w => withWord 0x0E w
  | .aslAbsX w => withWord 0x1E w
  | .lsrAcc => [0x4A]
  | .lsrZp z => [0x46, z]
  | .lsrZpX z => [0x56, z]
  | .lsrAbs w => withWord 0x4E w
  | .lsrAbsX w => withWord 0x5E w
  | .rolAcc => [0x2A]
  | .rolZp z => [0x26, z]
  | .rolZpX z => [0x36, z]
  | .rolAbs w => withWord 0x2E w
  | .rolAbsX w => withWord 0x3E w
  | .rorAcc => [0x6A]
  | .rorZp z => [0x66, z]
  | .rorZpX z => [0x76, z]
  | .rorAbs w => withWord 0x6E w
  | .rorAbsX w => withWord 0x7E w
  | .bcc d => [0x90, d]
  | .bcs d => [0xB0, d]
  | .beq d => [0xF0, d]
  | .bne d => [0xD0, d]
  | .bmi d => [0x30, d]
  | .bpl d => [0x10, d]
  | .bvc d => [0x50, d]
  | .bvs d => [0x70, d]
  | .jmpAbs w => withWord 0x4C w
  | .jmpInd ptr => withWord 0x6C ptr
  | .jsr w => withWord 0x20 w
  | .rts => [0x60]
  | .clc => [0x18]
  | .sec => [0x38]
  | .cli => [0x58]
  | .sei => [0x78]
  | .cld => [0xD8]
  | .sed => [0xF8]
  | .clv => [0xB8]
  | .nop => [0xEA]
  | .brk => [0x00, 0x00]
  | .rti => [0x40]

/-- The opcode byte of an instruction (byte0, R80). -/
def Instr.opcode (i : Instr) : Byte := (encode i).headD 0x00

/-- The length of an instruction in bytes (R81). -/
def Instr.length (i : Instr) : Nat := (encode i).length

/-! ### The table's numbering -/

/-- The longest instruction (R81). -/
def maxLength : Nat := 3

/-- The `n` bytes of a number, least significant first. -/
def bytesOfNat : Nat → Nat → List Byte
  | 0, _ => []
  | n + 1, w => BitVec.ofNat 8 w :: bytesOfNat n (w / 256)

/-- The instruction's bytes in the order the hardware stores them: bit 0 of `w` is the opcode byte's bit 0, and every
bit from `nbits` on is 0. -/
def tableBytes (nbits w : Nat) : List Byte := bytesOfNat maxLength (w % 2 ^ nbits)

/-- The instruction the decoder reads from a word numbered as `opcode_table.json` numbers it. -/
def decodeTableWord (nbits w : Nat) : Option Instr :=
  match decode (tableBytes nbits w) with
  | .ok (i, _) => some i
  | .error _ => none

end Sys2Proof
end

