-- ==== Sys2Proof/WellFormed.lean ====
section
/-! DEFINITION. Which instructions a core executes. Operand bytes have no illegal value (`30_encoding.md` R88): every
operand is a full byte or a full address, so the one check is that the opcode is in `IMPLEMENTED_SET`
(`40_dispatch.md` R113). -/

namespace Sys2Proof

/-- The instruction's opcode is in the core's `IMPLEMENTED_SET`. -/
def Instr.wellFormed (p : Params) (i : Instr) : Bool := p.implemented i.opcode

end Sys2Proof
end

