-- ==== Sys2Proof/Machine/Cycle.lean ====
section
/-! DEFINITION. The dispatch core (`40_dispatch.md` R100 to R107): fetching an instruction, and the operation `step()` with
the value it returns and the state it leaves. -/

namespace Sys2Proof.Machine

/-- Why a step, or a run of steps, ends. -/
inductive Stop where
  | fault (f : Fault)
  | refusal (r : Refusal)
  deriving DecidableEq, Repr

/-- What `step()` returns to the host (R101, R102, R106). -/
inductive StepReturn where
  /-- a Fetch step ran the instruction with opcode `op` at address `addr`, at this cost (R101) -/
  | executed (addr : Addr) (op : Byte) (cost : Nat)
  /-- a Stall step (R102) -/
  | stalled
  /-- the fault of R106, or the same fault again (R107), or a refusal -/
  | stopped (why : Stop)
  deriving DecidableEq, Repr

/-- The longest instruction's bytes from PC on. Reading more of them than the instruction has is unobservable
(`20_memory.md` R53, R60; log entry 5). -/
def State.fetchBytes (s : State) : List Byte := s.readBytes s.pc maxLength

/-- The instruction at PC, or the record of R106 when its opcode byte is undocumented (`30_encoding.md` R87) or outside
`IMPLEMENTED_SET` (R113). -/
def fetch (par : Params) (s : State) : Except OpcodeFault Instr :=
  match decode s.fetchBytes with
  | .ok (i, _) => if i.wellFormed par then .ok i else .error { op := s.read s.pc, addr := s.pc }
  | .error _ => .error { op := s.read s.pc, addr := s.pc }

/-- `step()` in the Fetch state (R101, R106), with the instructions' meaning as an argument. An unknown opcode sets
`run` and changes nothing else. That a refused instruction (`45_arith.md` R203) leaves the state as it was, without
halting, is the model's choice (DESIGN CHOICE, unsafe, log entry 11). -/
def fetchStep (par : Params) (execute : Instr → State → Result) (s : State) : StepReturn × State :=
  match fetch par s with
  | .error f => (.stopped (.fault (.unimplementedOpcode f)), s.halt f)
  | .ok i =>
    match execute i s with
    | .next t => (.executed s.pc i.opcode (t.pending + 1), t)
    | .fault f => (.stopped (.fault f), s)
    | .refused r => (.stopped (.refusal r), s)

/-- `step()` (R100): the same fault again while halted (R107), a Stall step while `pending` is positive (R102), a
Fetch step otherwise. -/
def stepCallWith (par : Params) (execute : Instr → State → Result) (s : State) : StepReturn × State :=
  match s.run with
  | .halted f => (.stopped (.fault (.unimplementedOpcode f)), s)
  | .running =>
    if s.pending = 0 then fetchStep par execute s else (.stalled, s.setPending (s.pending - 1))

/-- `step()` of the core at the default parameters: what it returns, and the state it leaves. -/
def stepCall (s : State) : StepReturn × State := stepCallWith Config.params exec s

/-- A step as one of the three outcomes the host reads. On a fault the outcome holds the reason alone; the state
the fault leaves is the second part of `stepCall` (log entry 4). -/
def outcomeOf : StepReturn × State → Result
  | (.executed _ _ _, t) => .next t
  | (.stalled, t) => .next t
  | (.stopped (.fault f), _) => .fault f
  | (.stopped (.refusal r), _) => .refused r

/-- The state with a word of the opcode table laid at PC through the bus, running and in the Fetch state, so that the
next step fetches and runs that instruction. -/
def State.placeWord (s : State) (nbits w : Nat) : State :=
  { s.writeBytes s.pc (tableBytes nbits w) with pending := 0, run := .running }

end Sys2Proof.Machine
end

