-- ==== Sys2Proof/Machine/Step.lean ====
section
/-! DEFINITION. One `step()` call, one CPU cycle (`40_dispatch.md` R114), as an outcome. -/

namespace Sys2Proof.Machine

/-- One step of the core (R100 to R107). -/
def step (s : State) : Host.Outcome State Fault Refusal := outcomeOf (stepCall s)

/-- The state with an instruction of the opcode table placed where the next step fetches it (log entry 7). -/
def State.withFetchWord (s : State) (nbits w : Nat) : State := s.placeWord nbits w

end Sys2Proof.Machine
end

