-- ==== Sys2Proof/Machine/Variants.lean ====
section
/-! DEFINITION. The instructions of a core built with any parameters (`00_scope.md` R8). Only ADC, SBC, PHP and
JMP (abs) read one; every other instruction is `exec`'s. At the default parameters this is `exec`
(`Sys2Proof/Laws/Variants.lean`). -/

namespace Sys2Proof.Machine

/-- `Execute` (`40_dispatch.md` R105) in a core with the parameters `par`. -/
def execWith (par : Params) (i : Instr) (s : State) : Result :=
  match i with
  | .adcImm v => adcWith par.decimalArith (.imm v) 2 s
  | .adcZp z => adcWith par.decimalArith (.mem (.zp z)) 3 s
  | .adcZpX z => adcWith par.decimalArith (.mem (.zpX z)) 4 s
  | .adcAbs w => adcWith par.decimalArith (.mem (.abs w)) 4 s
  | .adcAbsX w => adcWith par.decimalArith (.mem (.absX w)) 4 s
  | .adcAbsY w => adcWith par.decimalArith (.mem (.absY w)) 4 s
  | .adcIndX z => adcWith par.decimalArith (.mem (.indX z)) 6 s
  | .adcIndY z => adcWith par.decimalArith (.mem (.indY z)) 5 s
  | .sbcImm v => sbcWith par.decimalArith (.imm v) 2 s
  | .sbcZp z => sbcWith par.decimalArith (.mem (.zp z)) 3 s
  | .sbcZpX z => sbcWith par.decimalArith (.mem (.zpX z)) 4 s
  | .sbcAbs w => sbcWith par.decimalArith (.mem (.abs w)) 4 s
  | .sbcAbsX w => sbcWith par.decimalArith (.mem (.absX w)) 4 s
  | .sbcAbsY w => sbcWith par.decimalArith (.mem (.absY w)) 4 s
  | .sbcIndX z => sbcWith par.decimalArith (.mem (.indX z)) 6 s
  | .sbcIndY z => sbcWith par.decimalArith (.mem (.indY z)) 5 s
  | .php => phpWith par.pushBMode s
  | .jmpInd ptr => jmpIndWith par.jmpIndPageWrap ptr s
  | other => exec other s

end Sys2Proof.Machine
end

