-- ==== Sys2Proof/Machine/HostOps.lean ====
section
/-! DEFINITION. The host's operations between steps (`60_exceptions.md` R315): `reset`, `load`, `run_for`, `run`, `inject`.
Each takes the parameters of the core it drives; `Config.params` is the core of `exec` and `step`. -/

namespace Sys2Proof.Machine

/-- `step()` of a core built with any parameters (`00_scope.md` R8). -/
def stepIn (par : Params) (s : State) : StepReturn × State := stepCallWith par (execWith par) s

/-- `reset()` (`70_reset_and_hazards.md` R331). -/
def hostReset (par : Params) (s : State) : State := s.resetOp par.resetSp

/-! ### `load` -/

/-- `image[k]`; every use below is of an index the checks before it have shown to be inside the image. -/
def imageByte (image : List Byte) (k : Nat) : Byte := image.getD k 0x00

/-- The length of the header (`20_memory.md` R64). -/
def headerLength : Nat := 16

/-- The length of a program bank (`00_scope.md` R7). -/
def bankLength : Nat := 16384

/-- `mapper = (image[7][7:4] << 4) | image[6][7:4]` (R64 step 6). -/
def mapperOf (image : List Byte) : Byte :=
  ((imageByte image 7 >>> 4) <<< 4) ||| (imageByte image 6 >>> 4)

/-- The checks of `20_memory.md` R64, in its order; the first that fails gives the reason. -/
def imageProblem (image : List Byte) : Option MalformedReason :=
  if image.length < headerLength then some .truncatedHeader
  else if image.take 3 ≠ [0x4E, 0x45, 0x53] then some .badSignature
  else if imageByte image 3 ≠ 0x1A then some .badFormatTag
  else if (image.drop 9).take 7 ≠ [0, 0, 0, 0, 0, 0, 0] then some .reservedNonZero
  else if (imageByte image 6).getLsbD 2 then some .unsupportedTrainer
  else if mapperOf image ≠ 0x00 then some .unsupportedMapper
  else if imageByte image 4 ≠ 0x01 then some .unsupportedBankCount
  else if image.length < headerLength + bankLength * (imageByte image 4).toNat then some .truncatedProgramData
  else none

/-- The program bytes of an image (R63, R64). -/
def programBank (image : List Byte) : List Byte := (image.drop headerLength).take bankLength

/-- The origins of the two windows (R61, D10). -/
def lowerWindow : Addr := 0x8000

/-- The origin of the upper window (R61, D10). -/
def upperWindow : Addr := 0xC000

/-- Bank placement (R63): byte by byte, into both windows, which are independent cells afterwards (D12). -/
def State.placeBank (s : State) (offset : Addr) : List Byte → State
  | [] => s
  | v :: rest =>
    ((s.write (lowerWindow + offset) v).write (upperWindow + offset) v).placeBank (offset + 1) rest

/-- `load(image)` (`70_reset_and_hazards.md` R332): what it raises, and the state it leaves. A failed load changes nothing
(`20_memory.md` R65). -/
def load (par : Params) (image : List Byte) (s : State) : Option Fault × State :=
  match imageProblem image with
  | some reason => (some (.malformedCartridge reason), s)
  | none => (none, hostReset par (s.placeBank 0 (programBank image)))

/-! ### Driving the clock -/

/-- The result of `run_for(n)` (`40_dispatch.md` R109, D33): the steps performed, the one that stopped included, why it
stopped if it did, and the state it leaves. -/
structure RunResult where
  steps : Nat
  stop : Option Stop
  state : State
  deriving DecidableEq, Repr

/-- `run_for(n)` (R109). That a refused step is counted and ends the run is the model's choice (DESIGN CHOICE, unsafe,
log entry 11). -/
def runFor (par : Params) : Nat → State → RunResult
  | 0, s => { steps := 0, stop := none, state := s }
  | n + 1, s =>
    match stepIn par s with
    | (.stopped why, t) => { steps := 1, stop := some why, state := t }
    | (_, t) =>
      let r := runFor par n t
      { r with steps := r.steps + 1 }

/-- `run()` (R108) returns `why`, leaving the state `t`: some number of steps ends in that stop. `run()` returns in no
other way, so where no `n` does, it does not return (log entry 9). R108 lets it return with a fault alone and says
nothing of a step refused under `DECIMAL_ARITH = true` (R203): that `run()` then returns with the refusal is the
model's choice (DESIGN CHOICE, unsafe, log entry 11). -/
def RunReturns (par : Params) (s : State) (why : Stop) (t : State) : Prop :=
  ∃ n, (runFor par n s).stop = some why ∧ (runFor par n s).state = t

/-- `inject(bytes)` (R110, C8, D27): on a halted core the fault and no write; otherwise the bytes at PC through the
bus, one Fetch step, and `pending` 0 before and after it. R110 foresees only an executed instruction and the fault of
R106: that `inject` of an ADC or SBC refused under `DECIMAL_ARITH = true` (R203) returns the refusal and leaves the
bytes written and `pending` 0 is the model's choice (DESIGN CHOICE, unsafe, log entry 11). -/
def inject (par : Params) (bytes : List Byte) (s : State) : StepReturn × State :=
  match s.run with
  | .halted f => (.stopped (.fault (.unimplementedOpcode f)), s)
  | .running =>
    let (r, t) := stepIn par ((s.writeBytes s.pc bytes).setPending 0)
    (r, t.setPending 0)

/-- The fault codes (`60_exceptions.md` R300, D30), never visible to a program. -/
def Fault.code : Fault → Nat
  | .unimplementedOpcode _ => 1
  | .malformedCartridge _ => 2

end Sys2Proof.Machine
end

