-- ==== Sys2Proof/Safety.lean ====
section
/-! DEFINITION. What counts as a sound state, in the terms the statements use. -/

namespace Sys2Proof.Machine

/-- The invariant of the core: the backing array keeps its canonical form, `pending` stays below the largest cost 7
(`70_reset_and_hazards.md` R340), and a halted core has nothing left to stall out (`40_dispatch.md` R106). -/
def State.Inv (s : State) : Prop :=
  s.mem.wf ∧ s.pending ≤ 6 ∧ (s.run ≠ .running → s.pending = 0)

/-- A cell of the backing array that no address resolves to (`20_memory.md` R51). -/
def shadowCell (key : Nat) : Prop :=
  (0x0800 ≤ key ∧ key < 0x2000) ∨ (0x2008 ≤ key ∧ key < 0x4000)

/-- The core has met no fault: a safe run is one all of whose states are. -/
def State.safe (s : State) : Bool := s.run == .running

end Sys2Proof.Machine
end

