-- ==== Sys2Proof/Certificates/Slice0/Obligations.lean ====
section
/-! DEFINITION. The statements for the provers, and the vocabulary they are written in. Where a statement could repeat a
definition, the vocabulary says the same in the spec's own arithmetic, on numbers. -/

namespace Sys2Proof.Stmt

open Sys2Proof.Machine

/-! ### Vocabulary: results -/

/-- Z and N as `SetNZ` gives them (`10_state.md` R30). -/
def nz (p : Flags) (v : Byte) : Flags := { p with z := decide (v = 0), n := v.getLsbD 7 }

/-- The packed status byte as a number (`10_state.md` R27): each flag at the weight of its bit, bit 5 at 1. -/
def statusByte (p : Flags) (bit4 : Bool) : Byte :=
  BitVec.ofNat 8 (128 * bitNat p.n + 64 * bitNat p.v + 32 + 16 * bitNat bit4 + 8 * bitNat p.d + 4 * bitNat p.i
    + 2 * bitNat p.z + bitNat p.c)

/-- The address of the stack cell at an offset (`44_stack.md` R170). -/
def stackCell (offset : Byte) : Addr := BitVec.ofNat 16 (256 + offset.toNat)

/-- The bytes decode to the instruction and to nothing else, and running it in `s` answers the next state `t`. -/
def Form (bytes : List Byte) (i : Instr) (s t : State) : Prop :=
  decode bytes = .ok (i, []) ∧ exec i s = .next t

/-- A class R form: its result is `after` of the operand's value, its length and its cost. -/
def ReadForm (bytes : List Byte) (i : Instr) (o : Operand) (cycles : Nat) (s : State)
    (after : Byte → Nat → Nat → State) : Prop :=
  Form bytes i s (after (o.value s) bytes.length (cycles + o.penalty s))

/-- The eight forms of a class R instruction on A, with their opcodes, base costs and operands. -/
def EightForms (imm zp zpX abs absX absY indX indY : Byte) (iImm iZp iZpX : Byte → Instr)
    (iAbs iAbsX iAbsY : Addr → Instr) (iIndX iIndY : Byte → Instr) (s : State)
    (after : Byte → Nat → Nat → State) : Prop :=
  (∀ v, ReadForm [imm, v] (iImm v) (.imm v) 2 s after) ∧
  (∀ z, ReadForm [zp, z] (iZp z) (.mem (.zp z)) 3 s after) ∧
  (∀ z, ReadForm [zpX, z] (iZpX z) (.mem (.zpX z)) 4 s after) ∧
  (∀ lo hi, ReadForm [abs, lo, hi] (iAbs (concat hi lo)) (.mem (.abs (concat hi lo))) 4 s after) ∧
  (∀ lo hi, ReadForm [absX, lo, hi] (iAbsX (concat hi lo)) (.mem (.absX (concat hi lo))) 4 s after) ∧
  (∀ lo hi, ReadForm [absY, lo, hi] (iAbsY (concat hi lo)) (.mem (.absY (concat hi lo))) 4 s after) ∧
  (∀ z, ReadForm [indX, z] (iIndX z) (.mem (.indX z)) 6 s after) ∧
  (∀ z, ReadForm [indY, z] (iIndY z) (.mem (.indY z)) 5 s after)

/-- `t` has the registers A, X, Y, SP and the run state of `s`. -/
def SameRegisters (s t : State) : Prop :=
  t.a = s.a ∧ t.x = s.x ∧ t.y = s.y ∧ t.sp = s.sp ∧ t.run = s.run

/-- Every byte of `t` reads as in `s`, but for those that share the cell of `ea`, which read as `v`. -/
def OneByteStored (s t : State) (ea : Addr) (v : Byte) : Prop :=
  ∀ b, t.read b = if resolve b = resolve ea then v else s.read b

/-- A class W form: `v` at the effective address; no register, no flag. -/
def StoreForm (bytes : List Byte) (i : Instr) (m : MemMode) (cycles : Nat) (v : Byte) (s : State) : Prop :=
  ∃ t, Form bytes i s t ∧ SameRegisters s t ∧ t.p = s.p ∧ t.pc = s.pc + BitVec.ofNat 16 bytes.length ∧
    t.pending = cycles - 1 ∧ OneByteStored s t (m.ea s) v

/-- A class M form in memory: `f` of the flags and the byte read gives the byte stored and the new flags. -/
def ModifyForm (bytes : List Byte) (i : Instr) (m : MemMode) (cycles : Nat) (f : Flags → Byte → Byte × Flags)
    (s : State) : Prop :=
  ∃ t, Form bytes i s t ∧ SameRegisters s t ∧ t.p = (f s.p (s.read (m.ea s))).2 ∧
    t.pc = s.pc + BitVec.ofNat 16 bytes.length ∧ t.pending = cycles - 1 ∧
    OneByteStored s t (m.ea s) (f s.p (s.read (m.ea s))).1

/-- The accumulator form of a shift or rotate. -/
def AccForm (opcode : Byte) (i : Instr) (f : Flags → Byte → Byte × Flags) (s : State) : Prop :=
  Form [opcode] i s { s with a := (f s.p s.a).1, p := (f s.p s.a).2, pc := s.pc + 1, pending := 1 }

/-- INC on numbers (`45_arith.md` R197). -/
def incByte (p : Flags) (v : Byte) : Byte × Flags :=
  (BitVec.ofNat 8 (v.toNat + 1), nz p (BitVec.ofNat 8 (v.toNat + 1)))

/-- DEC on numbers (`45_arith.md` R198). -/
def decByte (p : Flags) (v : Byte) : Byte × Flags :=
  (BitVec.ofNat 8 (v.toNat + 255), nz p (BitVec.ofNat 8 (v.toNat + 255)))

/-- ASL on numbers (`46_logic_shift.md` R225). -/
def aslByte (p : Flags) (v : Byte) : Byte × Flags :=
  let r := BitVec.ofNat 8 (2 * v.toNat)
  (r, nz { p with c := decide (128 ≤ v.toNat) } r)

/-- LSR on numbers (`46_logic_shift.md` R226): N is always cleared. -/
def lsrByte (p : Flags) (v : Byte) : Byte × Flags :=
  let r := BitVec.ofNat 8 (v.toNat / 2)
  (r, { p with c := decide (v.toNat % 2 = 1), z := decide (v.toNat < 2), n := false })

/-- ROL on numbers (`46_logic_shift.md` R227). -/
def rolByte (p : Flags) (v : Byte) : Byte × Flags :=
  let r := BitVec.ofNat 8 (2 * v.toNat + bitNat p.c)
  (r, nz { p with c := decide (128 ≤ v.toNat) } r)

/-- ROR on numbers (`46_logic_shift.md` R228). -/
def rorByte (p : Flags) (v : Byte) : Byte × Flags :=
  let r := BitVec.ofNat 8 (v.toNat / 2 + 128 * bitNat p.c)
  (r, nz { p with c := decide (v.toNat % 2 = 1) } r)

/-- A load into A, X or Y: the register, then N and Z, PC and the cost. -/
def afterLdA (s : State) (m : Byte) (len cost : Nat) : State :=
  { s with a := m, p := nz s.p m, pc := s.pc + BitVec.ofNat 16 len, pending := cost - 1 }

def afterLdX (s : State) (m : Byte) (len cost : Nat) : State :=
  { s with x := m, p := nz s.p m, pc := s.pc + BitVec.ofNat 16 len, pending := cost - 1 }

def afterLdY (s : State) (m : Byte) (len cost : Nat) : State :=
  { s with y := m, p := nz s.p m, pc := s.pc + BitVec.ofNat 16 len, pending := cost - 1 }

/-- ADC (`45_arith.md` R190, R191): the sum as a number. -/
def afterAdc (s : State) (m : Byte) (len cost : Nat) : State :=
  let sum := s.a.toNat + m.toNat + bitNat s.p.c
  let r := BitVec.ofNat 8 sum
  { s with
    a := r
    p := nz { s.p with c := decide (255 < sum), v := decide (((s.a ^^^ r) &&& (m ^^^ r) &&& 0x80) ≠ 0) } r
    pc := s.pc + BitVec.ofNat 16 len
    pending := cost - 1 }

/-- SBC (`45_arith.md` R192) as a subtraction of integers: C is "no borrow", V the signed overflow of the subtraction. -/
def afterSbc (s : State) (m : Byte) (len cost : Nat) : State :=
  let borrow : Int := 1 - (bitNat s.p.c : Int)
  let d : Int := (s.a.toNat : Int) - (m.toNat : Int) - borrow
  let e : Int := s.a.toInt - m.toInt - borrow
  let r := BitVec.ofInt 8 d
  { s with
    a := r
    p := nz { s.p with c := decide (0 ≤ d), v := decide (e < -128 ∨ 127 < e) } r
    pc := s.pc + BitVec.ofNat 16 len
    pending := cost - 1 }

/-- A comparison of a register with a byte (`45_arith.md` R193): C, Z, N; V and the register unchanged. -/
def afterCompare (reg : Byte) (s : State) (m : Byte) (len cost : Nat) : State :=
  { s with
    p := nz { s.p with c := decide (m.toNat ≤ reg.toNat) } (BitVec.ofInt 8 ((reg.toNat : Int) - (m.toNat : Int)))
    pc := s.pc + BitVec.ofNat 16 len
    pending := cost - 1 }

/-- BIT (`46_logic_shift.md` R223). -/
def afterBit (s : State) (m : Byte) (len cost : Nat) : State :=
  { s with
    p := { s.p with z := decide (s.a &&& m = 0), n := m.getLsbD 7, v := m.getLsbD 6 }
    pc := s.pc + BitVec.ofNat 16 len
    pending := cost - 1 }

/-- The target of a branch (`41_addressing.md` R131), on numbers: the address after the displacement byte plus the signed
displacement, modulo 2^16. -/
def branchTarget (s : State) (d : Byte) : Addr := BitVec.ofInt 16 ((s.pc.toNat : Int) + 2 + d.toInt)

/-- A conditional branch (`47_control.md` R250). -/
def BranchForm (opcode : Byte) (i : Byte → Instr) (cond : State → Bool) : Prop :=
  ∀ (s : State) (d : Byte),
    Form [opcode, d] (i d) s
      (if cond s then
        { s with
          pc := branchTarget s d
          pending := if (s.pc + 2).toNat / 256 = (branchTarget s d).toNat / 256 then 2 else 3 }
      else { s with pc := s.pc + 2, pending := 1 })

/-- An implied instruction of one byte that costs 2 and leaves `t`'s registers, flags and memory. -/
def TwoCycleForm (opcode : Byte) (i : Instr) (s t : State) : Prop :=
  Form [opcode] i s { t with pc := s.pc + 1, pending := 1 }

/-- `t` is `s` with one byte pushed (`44_stack.md` R171), and PC one further. -/
def OnePushed (s t : State) (v : Byte) : Prop :=
  t.a = s.a ∧ t.x = s.x ∧ t.y = s.y ∧ t.sp = s.sp - 1 ∧ t.run = s.run ∧ t.p = s.p ∧ t.pc = s.pc + 1 ∧
    OneByteStored s t (stackCell s.sp) v

/-- Two bytes pushed, the high byte first (`44_stack.md` R173): what every address reads. -/
def WordPushed (s t : State) (w : Addr) : Prop :=
  ∀ b, t.read b =
    if resolve b = resolve (stackCell s.sp) then BitVec.ofNat 8 (w.toNat / 256)
    else if resolve b = resolve (stackCell (s.sp - 1)) then BitVec.ofNat 8 (w.toNat % 256)
    else s.read b

/-- The word two stack cells above SP hold (`44_stack.md` R174). -/
def stackedWord (s : State) (offset : Byte) : Addr :=
  BitVec.ofNat 16 (256 * (s.read (stackCell (offset + 1))).toNat + (s.read (stackCell offset)).toNat)

/-! ### Vocabulary: the classes of instructions -/

/-- The instructions that write A (`10_state.md` R21). -/
def writesA : Instr → Bool
  | .ldaImm _ | .ldaZp _ | .ldaZpX _ | .ldaAbs _ | .ldaAbsX _ | .ldaAbsY _ | .ldaIndX _ | .ldaIndY _ | .txa
    | .tya | .pla | .adcImm _ | .adcZp _ | .adcZpX _ | .adcAbs _ | .adcAbsX _ | .adcAbsY _ | .adcIndX _
    | .adcIndY _ | .sbcImm _ | .sbcZp _ | .sbcZpX _ | .sbcAbs _ | .sbcAbsX _ | .sbcAbsY _ | .sbcIndX _
    | .sbcIndY _ | .andImm _ | .andZp _ | .andZpX _ | .andAbs _ | .andAbsX _ | .andAbsY _ | .andIndX _
    | .andIndY _ | .oraImm _ | .oraZp _ | .oraZpX _ | .oraAbs _ | .oraAbsX _ | .oraAbsY _ | .oraIndX _
    | .oraIndY _ | .eorImm _ | .eorZp _ | .eorZpX _ | .eorAbs _ | .eorAbsX _ | .eorAbsY _ | .eorIndX _
    | .eorIndY _ | .aslAcc | .lsrAcc | .rolAcc | .rorAcc => true
  | _ => false

/-- The instructions that write X (`10_state.md` R22). -/
def writesX : Instr → Bool
  | .ldxImm _ | .ldxZp _ | .ldxZpY _ | .ldxAbs _ | .ldxAbsY _ | .tax | .tsx | .inx | .dex => true
  | _ => false

/-- The instructions that write Y (`10_state.md` R23). -/
def writesY : Instr → Bool
  | .ldyImm _ | .ldyZp _ | .ldyZpX _ | .ldyAbs _ | .ldyAbsX _ | .tay | .iny | .dey => true
  | _ => false

/-- The instructions that write SP (`10_state.md` R24): TXS and those that push or pop. -/
def writesSp : Instr → Bool
  | .txs | .pha | .php | .pla | .plp | .jsr _ | .rts | .brk | .rti => true
  | _ => false

/-- The instructions that write memory: class W, class M in a memory mode (`41_addressing.md` R136), and those that push. -/
def writesMem : Instr → Bool
  | .staZp _ | .staZpX _ | .staAbs _ | .staAbsX _ | .staAbsY _ | .staIndX _ | .staIndY _ | .stxZp _ | .stxZpY _
    | .stxAbs _ | .styZp _ | .styZpX _ | .styAbs _ | .pha | .php | .incZp _ | .incZpX _ | .incAbs _ | .incAbsX _
    | .decZp _ | .decZpX _ | .decAbs _ | .decAbsX _ | .aslZp _ | .aslZpX _ | .aslAbs _ | .aslAbsX _ | .lsrZp _
    | .lsrZpX _ | .lsrAbs _ | .lsrAbsX _ | .rolZp _ | .rolZpX _ | .rolAbs _ | .rolAbsX _ | .rorZp _ | .rorZpX _
    | .rorAbs _ | .rorAbsX _ | .jsr _ | .brk => true
  | _ => false

/-- The instructions that write C (`10_state.md` R26). -/
def writesC : Instr → Bool
  | .plp | .adcImm _ | .adcZp _ | .adcZpX _ | .adcAbs _ | .adcAbsX _ | .adcAbsY _ | .adcIndX _ | .adcIndY _
    | .sbcImm _ | .sbcZp _ | .sbcZpX _ | .sbcAbs _ | .sbcAbsX _ | .sbcAbsY _ | .sbcIndX _ | .sbcIndY _
    | .cmpImm _ | .cmpZp _ | .cmpZpX _ | .cmpAbs _ | .cmpAbsX _ | .cmpAbsY _ | .cmpIndX _ | .cmpIndY _
    | .cpxImm _ | .cpxZp _ | .cpxAbs _ | .cpyImm _ | .cpyZp _ | .cpyAbs _ | .aslAcc | .aslZp _ | .aslZpX _
    | .aslAbs _ | .aslAbsX _ | .lsrAcc | .lsrZp _ | .lsrZpX _ | .lsrAbs _ | .lsrAbsX _ | .rolAcc | .rolZp _
    | .rolZpX _ | .rolAbs _ | .rolAbsX _ | .rorAcc | .rorZp _ | .rorZpX _ | .rorAbs _ | .rorAbsX _ | .clc | .sec
    | .rti => true
  | _ => false

/-- The instructions that write Z and N (`10_state.md` R26): those whose rule calls SetNZ, BIT, PLP, RTI. -/
def writesNZ : Instr → Bool
  | .ldaImm _ | .ldaZp _ | .ldaZpX _ | .ldaAbs _ | .ldaAbsX _ | .ldaAbsY _ | .ldaIndX _ | .ldaIndY _ | .ldxImm _
    | .ldxZp _ | .ldxZpY _ | .ldxAbs _ | .ldxAbsY _ | .ldyImm _ | .ldyZp _ | .ldyZpX _ | .ldyAbs _ | .ldyAbsX _
    | .tax | .tay | .txa | .tya | .tsx | .pla | .plp | .adcImm _ | .adcZp _ | .adcZpX _ | .adcAbs _ | .adcAbsX _
    | .adcAbsY _ | .adcIndX _ | .adcIndY _ | .sbcImm _ | .sbcZp _ | .sbcZpX _ | .sbcAbs _ | .sbcAbsX _
    | .sbcAbsY _ | .sbcIndX _ | .sbcIndY _ | .cmpImm _ | .cmpZp _ | .cmpZpX _ | .cmpAbs _ | .cmpAbsX _
    | .cmpAbsY _ | .cmpIndX _ | .cmpIndY _ | .cpxImm _ | .cpxZp _ | .cpxAbs _ | .cpyImm _ | .cpyZp _ | .cpyAbs _
    | .incZp _ | .incZpX _ | .incAbs _ | .incAbsX _ | .decZp _ | .decZpX _ | .decAbs _ | .decAbsX _ | .inx
    | .iny | .dex | .dey | .andImm _ | .andZp _ | .andZpX _ | .andAbs _ | .andAbsX _ | .andAbsY _ | .andIndX _
    | .andIndY _ | .oraImm _ | .oraZp _ | .oraZpX _ | .oraAbs _ | .oraAbsX _ | .oraAbsY _ | .oraIndX _
    | .oraIndY _ | .eorImm _ | .eorZp _ | .eorZpX _ | .eorAbs _ | .eorAbsX _ | .eorAbsY _ | .eorIndX _
    | .eorIndY _ | .bitZp _ | .bitAbs _ | .aslAcc | .aslZp _ | .aslZpX _ | .aslAbs _ | .aslAbsX _ | .lsrAcc
    | .lsrZp _ | .lsrZpX _ | .lsrAbs _ | .lsrAbsX _ | .rolAcc | .rolZp _ | .rolZpX _ | .rolAbs _ | .rolAbsX _
    | .rorAcc | .rorZp _ | .rorZpX _ | .rorAbs _ | .rorAbsX _ | .rti => true
  | _ => false

/-- The instructions that write I (`10_state.md` R26). -/
def writesI : Instr → Bool
  | .plp | .cli | .sei | .brk | .rti => true
  | _ => false

/-- The instructions that write D (`10_state.md` R26). -/
def writesD : Instr → Bool
  | .plp | .cld | .sed | .rti => true
  | _ => false

/-- The instructions that write B (`10_state.md` R26). -/
def writesB : Instr → Bool
  | .plp | .brk | .rti => true
  | _ => false

/-- The instructions that write V (`10_state.md` R26). -/
def writesV : Instr → Bool
  | .plp | .adcImm _ | .adcZp _ | .adcZpX _ | .adcAbs _ | .adcAbsX _ | .adcAbsY _ | .adcIndX _ | .adcIndY _
    | .sbcImm _ | .sbcZp _ | .sbcZpX _ | .sbcAbs _ | .sbcAbsX _ | .sbcAbsY _ | .sbcIndX _ | .sbcIndY _
    | .bitZp _ | .bitAbs _ | .clv | .rti => true
  | _ => false

/-- The base cycle count of each instruction (`70_reset_and_hazards.md` R340). -/
def baseCycles : Instr → Nat
  | .ldaImm _ | .ldxImm _ | .ldyImm _ | .tax | .tay | .txa | .tya | .tsx | .txs | .adcImm _ | .sbcImm _
    | .cmpImm _ | .cpxImm _ | .cpyImm _ | .inx | .iny | .dex | .dey | .andImm _ | .oraImm _ | .eorImm _
    | .aslAcc | .lsrAcc | .rolAcc | .rorAcc | .bcc _ | .bcs _ | .beq _ | .bne _ | .bmi _ | .bpl _ | .bvc _
    | .bvs _ | .clc | .sec | .cli | .sei | .cld | .sed | .clv | .nop => 2
  | .ldaZp _ | .ldxZp _ | .ldyZp _ | .staZp _ | .stxZp _ | .styZp _ | .pha | .php | .adcZp _ | .sbcZp _
    | .cmpZp _ | .cpxZp _ | .cpyZp _ | .andZp _ | .oraZp _ | .eorZp _ | .bitZp _ | .jmpAbs _ => 3
  | .ldaZpX _ | .ldaAbs _ | .ldaAbsX _ | .ldaAbsY _ | .ldxZpY _ | .ldxAbs _ | .ldxAbsY _ | .ldyZpX _ | .ldyAbs _
    | .ldyAbsX _ | .staZpX _ | .staAbs _ | .stxZpY _ | .stxAbs _ | .styZpX _ | .styAbs _ | .pla | .plp
    | .adcZpX _ | .adcAbs _ | .adcAbsX _ | .adcAbsY _ | .sbcZpX _ | .sbcAbs _ | .sbcAbsX _ | .sbcAbsY _
    | .cmpZpX _ | .cmpAbs _ | .cmpAbsX _ | .cmpAbsY _ | .cpxAbs _ | .cpyAbs _ | .andZpX _ | .andAbs _
    | .andAbsX _ | .andAbsY _ | .oraZpX _ | .oraAbs _ | .oraAbsX _ | .oraAbsY _ | .eorZpX _ | .eorAbs _
    | .eorAbsX _ | .eorAbsY _ | .bitAbs _ => 4
  | .ldaIndY _ | .staAbsX _ | .staAbsY _ | .adcIndY _ | .sbcIndY _ | .cmpIndY _ | .incZp _ | .decZp _
    | .andIndY _ | .oraIndY _ | .eorIndY _ | .aslZp _ | .lsrZp _ | .rolZp _ | .rorZp _ | .jmpInd _ => 5
  | .ldaIndX _ | .staIndX _ | .staIndY _ | .adcIndX _ | .sbcIndX _ | .cmpIndX _ | .incZpX _ | .incAbs _
    | .decZpX _ | .decAbs _ | .andIndX _ | .oraIndX _ | .eorIndX _ | .aslZpX _ | .aslAbs _ | .lsrZpX _
    | .lsrAbs _ | .rolZpX _ | .rolAbs _ | .rorZpX _ | .rorAbs _ | .jsr _ | .rts | .rti => 6
  | .incAbsX _ | .decAbsX _ | .aslAbsX _ | .lsrAbsX _ | .rolAbsX _ | .rorAbsX _ | .brk => 7

/-- The penalty of two addresses on different pages (`41_addressing.md` R134). -/
def crossing (p q : Addr) : Nat := if p.toNat / 256 = q.toNat / 256 then 0 else 1

/-- The penalty of a branch (`47_control.md` R250). -/
def branchExtra (cond : Bool) (d : Byte) (s : State) : Nat :=
  if cond then 1 + crossing (s.pc + 2) (branchTarget s d) else 0

/-- The conditional cycles of each instruction (`70_reset_and_hazards.md` R339): class R crossing a page in abs,X, abs,Y or
(zp),Y, and taken branches. -/
def extraCycles (s : State) : Instr → Nat
  | .ldaAbsX w | .ldyAbsX w | .adcAbsX w | .sbcAbsX w | .cmpAbsX w | .andAbsX w | .oraAbsX w | .eorAbsX w =>
      crossing w (w + zext16 s.x)
  | .ldaAbsY w | .ldxAbsY w | .adcAbsY w | .sbcAbsY w | .cmpAbsY w | .andAbsY w | .oraAbsY w | .eorAbsY w =>
      crossing w (w + zext16 s.y)
  | .ldaIndY z | .adcIndY z | .sbcIndY z | .cmpIndY z | .andIndY z | .oraIndY z | .eorIndY z =>
      crossing (s.zpPointer z) (s.zpPointer z + zext16 s.y)
  | .bcc d => branchExtra (!s.p.c) d s
  | .bcs d => branchExtra (s.p.c) d s
  | .beq d => branchExtra (s.p.z) d s
  | .bne d => branchExtra (!s.p.z) d s
  | .bmi d => branchExtra (s.p.n) d s
  | .bpl d => branchExtra (!s.p.n) d s
  | .bvc d => branchExtra (!s.p.v) d s
  | .bvs d => branchExtra (s.p.v) d s
  | _ => 0

/-- The 105 opcode values without an instruction, as `30_encoding.md` R87 lists them. -/
def undocumented : List Byte :=
  [0x02, 0x03, 0x04, 0x07, 0x0B, 0x0C, 0x0F]
    ++ [0x12, 0x13, 0x14, 0x17, 0x1A, 0x1B, 0x1C, 0x1F]
    ++ [0x22, 0x23, 0x27, 0x2B, 0x2F]
    ++ [0x32, 0x33, 0x34, 0x37, 0x3A, 0x3B, 0x3C, 0x3F]
    ++ [0x42, 0x43, 0x44, 0x47, 0x4B, 0x4F]
    ++ [0x52, 0x53, 0x54, 0x57, 0x5A, 0x5B, 0x5C, 0x5F]
    ++ [0x62, 0x63, 0x64, 0x67, 0x6B, 0x6F]
    ++ [0x72, 0x73, 0x74, 0x77, 0x7A, 0x7B, 0x7C, 0x7F]
    ++ [0x80, 0x82, 0x83, 0x87, 0x89, 0x8B, 0x8F]
    ++ [0x92, 0x93, 0x97, 0x9B, 0x9C, 0x9E, 0x9F]
    ++ [0xA3, 0xA7, 0xAB, 0xAF]
    ++ [0xB2, 0xB3, 0xB7, 0xBB, 0xBF]
    ++ [0xC2, 0xC3, 0xC7, 0xCB, 0xCF]
    ++ [0xD2, 0xD3, 0xD4, 0xD7, 0xDA, 0xDB, 0xDC, 0xDF]
    ++ [0xE2, 0xE3, 0xE7, 0xEB, 0xEF]
    ++ [0xF2, 0xF3, 0xF4, 0xF7, 0xFA, 0xFB, 0xFC, 0xFF]

/-! ### Vocabulary: stack sequences (`44_stack.md` R176) -/

/-- A value of either width on the stack. -/
inductive StackItem where
  | byte (v : Byte)
  | word (w : Addr)
  deriving DecidableEq, Repr

/-- The bytes an item takes. -/
def StackItem.size : StackItem → Nat
  | .byte _ => 1
  | .word _ => 2

/-- The bytes outstanding. -/
def outstanding : List StackItem → Nat
  | [] => 0
  | it :: rest => it.size + outstanding rest

/-- One use of a stack primitive. -/
inductive StackOp where
  | push (it : StackItem)
  | popByte
  | popWord
  deriving DecidableEq, Repr

/-- The ideal stack, a list: the values popped, in order, and what stays on it. Nothing where a pop does not match the
width of the push it undoes, or where more than 256 bytes are outstanding. -/
def idealStack : List StackOp → List StackItem → Option (List StackItem × List StackItem)
  | [], st => some ([], st)
  | .push it :: ops, st =>
    if outstanding (it :: st) ≤ 256 then idealStack ops (it :: st) else none
  | .popByte :: ops, .byte v :: st => (idealStack ops st).map fun r => (.byte v :: r.1, r.2)
  | .popWord :: ops, .word w :: st => (idealStack ops st).map fun r => (.word w :: r.1, r.2)
  | .popByte :: _, _ => none
  | .popWord :: _, _ => none

/-- The same sequence on the machine's stack primitives: the values popped, and the state left. -/
def realStack : List StackOp → State → List StackItem × State
  | [], s => ([], s)
  | .push (.byte v) :: ops, s => realStack ops (s.push v)
  | .push (.word w) :: ops, s => realStack ops (s.push16 w)
  | .popByte :: ops, s =>
    let r := realStack ops s.pop.2
    (.byte s.pop.1 :: r.1, r.2)
  | .popWord :: ops, s =>
    let r := realStack ops s.pop16.2
    (.word s.pop16.1 :: r.1, r.2)

/-! ### Vocabulary: cartridge images (`20_memory.md` R64) -/

/-- The number R64 gives the check of each reason. -/
def checkNumber : MalformedReason → Nat
  | .truncatedHeader => 1
  | .badSignature => 2
  | .badFormatTag => 3
  | .reservedNonZero => 4
  | .unsupportedTrainer => 5
  | .unsupportedMapper => 6
  | .unsupportedBankCount => 7
  | .truncatedProgramData => 8

/-- The image fails the check of this reason, taken by itself (R64). -/
def failsCheck (image : List Byte) : MalformedReason → Prop
  | .truncatedHeader => image.length < 16
  | .badSignature => ¬(image.getD 0 0 = 0x4E ∧ image.getD 1 0 = 0x45 ∧ image.getD 2 0 = 0x53)
  | .badFormatTag => image.getD 3 0 ≠ 0x1A
  | .reservedNonZero => ∃ k, 9 ≤ k ∧ k ≤ 15 ∧ image.getD k 0 ≠ 0
  | .unsupportedTrainer => (image.getD 6 0).toNat / 4 % 2 = 1
  | .unsupportedMapper => (image.getD 7 0).toNat / 16 * 16 + (image.getD 6 0).toNat / 16 ≠ 0
  | .unsupportedBankCount => image.getD 4 0 ≠ 1
  | .truncatedProgramData => image.length < 16 + 16384 * (image.getD 4 0).toNat

/-- The forms of ADC (`45_arith.md` R191). -/
def isAdc : Instr → Bool
  | .adcImm _ | .adcZp _ | .adcZpX _ | .adcAbs _ | .adcAbsX _ | .adcAbsY _ | .adcIndX _ | .adcIndY _ => true
  | _ => false

/-- The forms of SBC (`45_arith.md` R192). -/
def isSbc : Instr → Bool
  | .sbcImm _ | .sbcZp _ | .sbcZpX _ | .sbcAbs _ | .sbcAbsX _ | .sbcAbsY _ | .sbcIndX _ | .sbcIndY _ => true
  | _ => false

/-- Some runs of an instruction, or none where one answers no next state. -/
def execTimes : Nat → Instr → State → Option State
  | 0, _, s => some s
  | n + 1, i, s =>
    match exec i s with
    | .next t => execTimes n i t
    | _ => none

end Sys2Proof.Stmt

open Sys2Proof Sys2Proof.Machine Sys2Proof.Stmt

/-- reset() sets SP, PC, pending and run, and nothing else. `R331`. -/
def Obligations.ResetSetsSpPcPendingRun : Prop :=
  ∀ (par : Params) (s : State),
    hostReset par s =
      { s with
        sp := par.resetSp
        pc := BitVec.ofNat 16 (256 * (s.read 0xFFFD).toNat + (s.read 0xFFFC).toNat)
        pending := 0
        run := .running } ∧
    Config.params.resetSp = 0xFF

/-- The invariant holds of the reset state. Derived from 10_state.md R32, R33; log entries 2 and 3. -/
def Obligations.InvariantHoldsAtReset : Prop :=
  State.reset.Inv

/-- Every step keeps the invariant. Derived from 10_state.md R32, R33; 40_dispatch.md R100 to R107;
70_reset_and_hazards.md R340. -/
def Obligations.StepKeepsInvariant : Prop :=
  ∀ s : State, s.Inv → (stepCall s).2.Inv ∧ ∀ t, step s = .next t → t.Inv

/-- The host operations keep the invariant. Derived from 60_exceptions.md R315, R316; 70_reset_and_hazards.md
R331, R332; 40_dispatch.md R110; log entry 11. -/
def Obligations.HostOperationsKeepInvariant : Prop :=
  ∀ (par : Params) (s : State), s.Inv →
    (hostReset par s).Inv ∧ (∀ image, (load par image s).2.Inv) ∧ (∀ bytes, (inject par bytes s).2.Inv) ∧
    (∀ n, (runFor par n s).state.Inv) ∧ (∀ a v, (s.write a v).Inv)

/-- Decoding the encoding of any instruction gives it back, with the bytes after it. Derived from 30_encoding.md
R80 to R86; log entry 8. -/
def Obligations.DecodeInvertsEncode : Prop :=
  ∀ (i : Instr) (rest : List Byte), decode (encode i ++ rest) = .ok (i, rest)

/-- Bytes that decode are the encoding of what they decode to. Derived from 30_encoding.md R80 to R88. -/
def Obligations.DecodedBytesAreTheEncoding : Prop :=
  ∀ (bytes : List Byte) (i : Instr) (rest : List Byte), decode bytes = .ok (i, rest) →
    (i ≠ .brk → bytes = encode i ++ rest) ∧
    (i = .brk → ∃ tail, bytes = 0x00 :: tail ∧ rest = tail.drop 1)

/-- Exactly the 105 listed opcode values are no instruction. Derived from 30_encoding.md R86, R87, R88. -/
def Obligations.UndocumentedOpcodesDoNotDecode : Prop :=
  (∀ (op : Byte) (rest : List Byte),
      decode (op :: rest) = .error (.undocumentedOpcode op) ↔ op ∈ undocumented) ∧
    (∀ (op b1 b2 : Byte), op ∉ undocumented → ∃ i rest, decode [op, b1, b2] = .ok (i, rest) ∧ i.opcode = op) ∧
    undocumented.length = 105

/-- One word of each family decodes to its instruction. Derived from 30_encoding.md R81, R85, R86. -/
def Obligations.SampleWordsDecode : Prop :=
  decodeTableWord 16 0x10A5 = some (.ldaZp 0x10) ∧ decodeTableWord 24 0x08008D = some (.staAbs 0x0800) ∧
    decodeTableWord 8 0xAA = some .tax ∧ decodeTableWord 8 0x48 = some .pha ∧
    decodeTableWord 16 0x1069 = some (.adcImm 0x10) ∧ decodeTableWord 16 0x1024 = some (.bitZp 0x10) ∧
    decodeTableWord 24 0x12F01E = some (.aslAbsX 0x12F0) ∧ decodeTableWord 16 0xF9D0 = some (.bne 0xF9) ∧
    decodeTableWord 24 0x02FF6C = some (.jmpInd 0x02FF) ∧ decodeTableWord 16 0xEA00 = some .brk

/-- A Fetch step is the meaning of the instruction decoded at PC. Derived from 40_dispatch.md R101, R105, R113.
-/
def Obligations.StepRunsDecodedInstruction : Prop :=
  ∀ (s : State) (i : Instr) (rest : List Byte), s.run = .running → s.pending = 0 →
    decode [s.read s.pc, s.read (s.pc + 1), s.read (s.pc + 2)] = .ok (i, rest) → i.wellFormed Config.params = true →
    step s = exec i s

/-- An instruction written at PC through the bus is the one the next step runs. Derived from 20_memory.md R52,
R54, R71; 40_dispatch.md R101, R104; 30_encoding.md R80. -/
def Obligations.PlacedInstructionIsStepped : Prop :=
  ∀ (s : State) (i : Instr),
    let u := { s.writeBytes s.pc (encode i) with pending := 0, run := RunState.running }
    step u = exec i u

/-- inject of an instruction runs it, reports its cost and leaves pending 0. Derived from 40_dispatch.md R110;
70_reset_and_hazards.md R342. -/
def Obligations.InjectRunsTheInjectedInstruction : Prop :=
  ∀ (par : Params) (s t : State) (i : Instr), s.run = .running → i.wellFormed par = true →
    execWith par i { s.writeBytes s.pc (encode i) with pending := 0 } = .next t →
    inject par (encode i) s = (.executed s.pc i.opcode (t.pending + 1), { t with pending := 0 })

/-- A halted core returns the same fault and changes nothing until reset. `R107`. -/
def Obligations.HaltedCoreRepeatsItsFault : Prop :=
  ∀ (par : Params) (s : State) (f : OpcodeFault), s.run = .halted f →
    stepIn par s = (.stopped (.fault (.unimplementedOpcode f)), s) ∧
    step s = .fault (.unimplementedOpcode f) ∧
    (∀ bytes, inject par bytes s = (.stopped (.fault (.unimplementedOpcode f)), s)) ∧
    (hostReset par s).run = .running ∧
    (∀ image, (load par image s).2.run = if (load par image s).1 = none then .running else .halted f)

/-- A Stall step decrements pending and does nothing else. `R102`. -/
def Obligations.StallStepOnlyCountsDown : Prop :=
  ∀ (par : Params) (s : State), s.run = .running → 0 < s.pending →
    stepIn par s = (.stalled, { s with pending := s.pending - 1 }) ∧
    step s = .next { s with pending := s.pending - 1 }

/-- An opcode outside IMPLEMENTED_SET halts the core and changes nothing else. `R106`. -/
def Obligations.UnknownOpcodeHaltsTheCore : Prop :=
  ∀ (par : Params) (s : State), s.run = .running → s.pending = 0 →
    ((s.read s.pc ∈ undocumented ∨ par.implemented (s.read s.pc) = false) →
      stepIn par s =
        (.stopped (.fault (.unimplementedOpcode { op := s.read s.pc, addr := s.pc })),
          { s with run := .halted { op := s.read s.pc, addr := s.pc } })) ∧
    (s.read s.pc ∈ undocumented → step s = .fault (.unimplementedOpcode { op := s.read s.pc, addr := s.pc }))

/-- An instruction occupies exactly its cost in steps. Derived from 40_dispatch.md R101, R102, R103. -/
def Obligations.InstructionOccupiesItsCost : Prop :=
  ∀ s t : State, s.pending = 0 → step s = .next t →
    1 ≤ t.pending ∧ t.pending ≤ 6 ∧
    ∀ k, k ≤ t.pending → Host.Core.run Sys2Proof.core k t = .next { t with pending := t.pending - k }

/-- Every instruction completes in every state, at the cost of the cycle table. `R339, R340`. -/
def Obligations.EveryInstructionCompletesAtItsCost : Prop :=
  ∀ (i : Instr) (s : State), ∃ t, exec i s = .next t ∧ t.pending + 1 = baseCycles i + extraCycles s i

/-- Only an unknown opcode halts, and a fault always leaves the core halted with it. Derived from
60_exceptions.md R300, R301, R303, R304; 40_dispatch.md R106, R107, R113. -/
def Obligations.NoInstructionFaultsAndRunStays : Prop :=
  (∀ (par : Params) (i : Instr) (s : State),
      (∀ f, execWith par i s ≠ .fault f) ∧ ∀ t, execWith par i s = .next t → t.run = s.run) ∧
    (∀ (i : Instr) (s t : State), exec i s = .next t → t.run = s.run) ∧
    ∀ (par : Params) (n : Nat) (s : State) (f : Fault), (runFor par n s).stop = some (.fault f) →
      ∃ r, f = .unimplementedOpcode r ∧ (runFor par n s).state.run = .halted r ∧
        (s.run = .halted r ∨
          (s.run = .running ∧ r.addr = (runFor par n s).state.pc ∧ r.op = (runFor par n s).state.read r.addr ∧
            (runFor par n s).state.pending = 0 ∧ (r.op ∈ undocumented ∨ par.implemented r.op = false)))

/-- run_for(n) performs up to n steps and stops at the first that faults (or is refused: the model's choice, log
entry 11). Derived from 40_dispatch.md R109; log entry 11. -/
def Obligations.RunForStopsAtTheFirstStop : Prop :=
  ∀ (par : Params) (s : State),
    runFor par 0 s = { steps := 0, stop := none, state := s } ∧
    (∀ k u, runFor par k s = { steps := k, stop := none, state := u } →
      (∀ why v, stepIn par u = (.stopped why, v) →
        runFor par (k + 1) s = { steps := k + 1, stop := some why, state := v }) ∧
      ((∀ why, (stepIn par u).1 ≠ .stopped why) →
        runFor par (k + 1) s = { steps := k + 1, stop := none, state := (stepIn par u).2 })) ∧
    ∀ n : Nat,
      (∀ why, (runFor par n s).stop = some why → runFor par (n + 1) s = runFor par n s) ∧
      (runFor par n s).steps ≤ n ∧
      ((runFor par n s).stop = none → (runFor par n s).steps = n) ∧
      ∀ why, (runFor par n s).stop = some why →
        ∃ k u, (runFor par n s).steps = k + 1 ∧ runFor par k s = { steps := k, stop := none, state := u } ∧
          stepIn par u = (.stopped why, (runFor par n s).state)

/-- After reset the next step runs the instruction at the reset vector. Derived from 70_reset_and_hazards.md
R333; 40_dispatch.md R101. -/
def Obligations.ResetThenFetchAtTheVector : Prop :=
  ∀ (s : State) (i : Instr) (rest : List Byte),
    decode (s.readBytes (concat (s.read 0xFFFD) (s.read 0xFFFC)) 3) = .ok (i, rest) →
    i.wellFormed Config.params = true →
    step (hostReset Config.params s) = exec i (hostReset Config.params s)

/-- Mirror resolution, by address range. `R52`. -/
def Obligations.ResolveFoldsTheMirrors : Prop :=
  ∀ a : Addr,
    (a.toNat < 0x2000 → (resolve a).toNat = a.toNat % 0x0800) ∧
    (0x2000 ≤ a.toNat → a.toNat < 0x4000 → (resolve a).toNat = 0x2000 + a.toNat % 8) ∧
    (0x4000 ≤ a.toNat → resolve a = a)

/-- A bus write is seen at exactly the addresses that resolve alike, and changes nothing else. `R53, R54`. -/
def Obligations.WriteIsSeenExactlyThroughItsMirrors : Prop :=
  ∀ (s : State) (a b : Addr) (v : Byte),
    (s.write a v).read b = (if resolve a = resolve b then v else s.read b) ∧
    { s.write a v with mem := s.mem } = s ∧
    ∀ k, k ≠ (resolve a).toNat → (s.write a v).mem.cell k = s.mem.cell k

/-- 16-bit bus accesses are two byte accesses, low byte first, modulo 2^16. Derived from 20_memory.md R52, R54
to R56. -/
def Obligations.WordAccessIsLittleEndianAndWraps : Prop :=
  ∀ (s : State) (a w : Addr),
    (s.read16 a).toNat = 256 * (s.read (BitVec.ofNat 16 ((a.toNat + 1) % 65536))).toNat + (s.read a).toNat ∧
    s.write16 a w =
      (s.write a (BitVec.ofNat 8 (w.toNat % 256))).write (BitVec.ofNat 16 ((a.toNat + 1) % 65536))
        (BitVec.ofNat 8 (w.toNat / 256)) ∧
    (s.write16 a w).read16 a = w

/-- No step, load, inject or bus write touches a cell that no address resolves to. Derived from 20_memory.md
R51, R52, R54; log entry 11. -/
def Obligations.ShadowCellsAreNeverTouched : Prop :=
  ∀ (par : Params) (s : State) (k : Nat), shadowCell k →
    (∀ t, step s = .next t → t.mem.cell k = s.mem.cell k) ∧
    (∀ n, (runFor par n s).state.mem.cell k = s.mem.cell k) ∧
    (∀ image, (load par image s).2.mem.cell k = s.mem.cell k) ∧
    (∀ bytes, (inject par bytes s).2.mem.cell k = s.mem.cell k) ∧
    ∀ a v, (s.write a v).mem.cell k = s.mem.cell k

/-- load raises the reason of the first check that fails, and then changes nothing. `R64`. -/
def Obligations.LoadRefusesByTheFirstFailingCheck : Prop :=
  ∀ (par : Params) (image : List Byte) (s : State),
    (∀ reason, (load par image s).1 = some (.malformedCartridge reason) ↔
      failsCheck image reason ∧ ∀ earlier, checkNumber earlier < checkNumber reason → ¬failsCheck image earlier) ∧
    (∀ f, (load par image s).1 = some f → (load par image s).2 = s ∧ ∃ reason, f = .malformedCartridge reason)

/-- A successful load copies the bank into both windows and resets the core. `R63, R332`. -/
def Obligations.LoadPlacesTheBankTwice : Prop :=
  ∀ (par : Params) (image : List Byte) (s : State),
    ((∀ reason, ¬failsCheck image reason) →
      (load par image s).1 = none ∧
      (∀ k, k < 16384 →
        (load par image s).2.read (BitVec.ofNat 16 (0x8000 + k)) = image.getD (16 + k) 0 ∧
        (load par image s).2.read (BitVec.ofNat 16 (0xC000 + k)) = image.getD (16 + k) 0) ∧
      (∀ b : Addr, b.toNat < 0x8000 → (load par image s).2.read b = s.read b) ∧
      (load par image s).2 =
        { s with
          sp := par.resetSp
          pc := concat (image.getD (16 + 0x3FFD) 0) (image.getD (16 + 0x3FFC) 0)
          pending := 0
          run := .running
          mem := (load par image s).2.mem }) ∧
    (∀ reason, failsCheck image reason → (load par image s).2 = s) ∧
    (∀ (k : Nat) (v : Byte), k < 16384 →
      (s.write (BitVec.ofNat 16 (0x8000 + k)) v).read (BitVec.ofNat 16 (0xC000 + k)) =
        s.read (BitVec.ofNat 16 (0xC000 + k)))

/-- The layout of the packed status byte, both ways. `R27, R28`. -/
def Obligations.StatusByteLayout : Prop :=
  (∀ (p : Flags) (bit4 : Bool), p.pack bit4 = statusByte p bit4) ∧
    (∀ b : Byte,
      Flags.unpack b =
        { c := decide (b.toNat % 2 = 1), z := decide (b.toNat / 2 % 2 = 1), i := decide (b.toNat / 4 % 2 = 1),
          d := decide (b.toNat / 8 % 2 = 1), b := decide (b.toNat / 16 % 2 = 1),
          v := decide (b.toNat / 64 % 2 = 1), n := decide (b.toNat / 128 % 2 = 1) } ∧
      Flags.unpack (b ||| 0x20) = Flags.unpack b) ∧
    (∀ p : Flags, p.pushedB Config.params.pushBMode = p.b)

/-- Packing and unpacking the status register are inverse on the seven flags. Derived from 10_state.md R27 to
R29. -/
def Obligations.StatusRoundTrips : Prop :=
  (∀ p : Flags, Flags.unpack (p.pack p.b) = p) ∧
    ∀ b : Byte, (Flags.unpack b).pack (b.getLsbD 4) = b ||| 0x20

/-- Push and pop in page 0x01, modulo 2^8. `R171, R172, R175`. -/
def Obligations.PushAndPopWrapInTheStackPage : Prop :=
  ∀ (s : State) (v : Byte),
    OneByteStored s (s.push v) (BitVec.ofNat 16 (0x0100 + s.sp.toNat)) v ∧
    (s.push v).sp.toNat = (s.sp.toNat + 255) % 256 ∧
    { s.push v with sp := s.sp, mem := s.mem } = s ∧
    s.pop.1 = s.read (BitVec.ofNat 16 (0x0100 + (s.sp.toNat + 1) % 256)) ∧
    s.pop.2 = { s with sp := BitVec.ofNat 8 (s.sp.toNat + 1) } ∧
    resolve (stackAddr s.sp) = BitVec.ofNat 16 (0x0100 + s.sp.toNat)

/-- The stack refines a list, for any interleaving of widths up to 256 bytes. Derived from 44_stack.md R171 to
R176. -/
def Obligations.StackIsLastInFirstOut : Prop :=
  ∀ (ops : List StackOp) (s : State) (popped left : List StackItem),
    idealStack ops [] = some (popped, left) →
    (realStack ops s).1 = popped ∧
    (realStack ops s).2.sp = s.sp - BitVec.ofNat 8 (outstanding left) ∧
    (left = [] → (realStack ops s).2.sp = s.sp)

/-- LDA, LDX, LDY in every form. `R140, R141, R142`. -/
def Obligations.LoadsSetTheirRegisterAndNZ : Prop :=
  ∀ s : State,
    EightForms 0xA9 0xA5 0xB5 0xAD 0xBD 0xB9 0xA1 0xB1
    .ldaImm .ldaZp .ldaZpX .ldaAbs .ldaAbsX .ldaAbsY .ldaIndX .ldaIndY s (afterLdA s) ∧
    (∀ v, ReadForm [0xA2, v] (.ldxImm v) (.imm v) 2 s (afterLdX s)) ∧
    (∀ z, ReadForm [0xA6, z] (.ldxZp z) (.mem (.zp z)) 3 s (afterLdX s)) ∧
    (∀ z, ReadForm [0xB6, z] (.ldxZpY z) (.mem (.zpY z)) 4 s (afterLdX s)) ∧
    (∀ lo hi, ReadForm [0xAE, lo, hi] (.ldxAbs (concat hi lo)) (.mem (.abs (concat hi lo))) 4 s (afterLdX s)) ∧
    (∀ lo hi, ReadForm [0xBE, lo, hi] (.ldxAbsY (concat hi lo)) (.mem (.absY (concat hi lo))) 4 s (afterLdX s)) ∧
    (∀ v, ReadForm [0xA0, v] (.ldyImm v) (.imm v) 2 s (afterLdY s)) ∧
    (∀ z, ReadForm [0xA4, z] (.ldyZp z) (.mem (.zp z)) 3 s (afterLdY s)) ∧
    (∀ z, ReadForm [0xB4, z] (.ldyZpX z) (.mem (.zpX z)) 4 s (afterLdY s)) ∧
    (∀ lo hi, ReadForm [0xAC, lo, hi] (.ldyAbs (concat hi lo)) (.mem (.abs (concat hi lo))) 4 s (afterLdY s)) ∧
    (∀ lo hi, ReadForm [0xBC, lo, hi] (.ldyAbsX (concat hi lo)) (.mem (.absX (concat hi lo))) 4 s (afterLdY s))

/-- STA, STX, STY in every form. `R143, R144, R145`. -/
def Obligations.StoresWriteOneByte : Prop :=
  ∀ s : State,
    (∀ z, StoreForm [0x85, z] (.staZp z) (.zp z) 3 s.a s) ∧
    (∀ z, StoreForm [0x95, z] (.staZpX z) (.zpX z) 4 s.a s) ∧
    (∀ lo hi, StoreForm [0x8D, lo, hi] (.staAbs (concat hi lo)) (.abs (concat hi lo)) 4 s.a s) ∧
    (∀ lo hi, StoreForm [0x9D, lo, hi] (.staAbsX (concat hi lo)) (.absX (concat hi lo)) 5 s.a s) ∧
    (∀ lo hi, StoreForm [0x99, lo, hi] (.staAbsY (concat hi lo)) (.absY (concat hi lo)) 5 s.a s) ∧
    (∀ z, StoreForm [0x81, z] (.staIndX z) (.indX z) 6 s.a s) ∧
    (∀ z, StoreForm [0x91, z] (.staIndY z) (.indY z) 6 s.a s) ∧
    (∀ z, StoreForm [0x86, z] (.stxZp z) (.zp z) 3 s.x s) ∧
    (∀ z, StoreForm [0x96, z] (.stxZpY z) (.zpY z) 4 s.x s) ∧
    (∀ lo hi, StoreForm [0x8E, lo, hi] (.stxAbs (concat hi lo)) (.abs (concat hi lo)) 4 s.x s) ∧
    (∀ z, StoreForm [0x84, z] (.styZp z) (.zp z) 3 s.y s) ∧
    (∀ z, StoreForm [0x94, z] (.styZpX z) (.zpX z) 4 s.y s) ∧
    (∀ lo hi, StoreForm [0x8C, lo, hi] (.styAbs (concat hi lo)) (.abs (concat hi lo)) 4 s.y s)

/-- The six register transfers. `R160, R161, R162, R163, R164, R165`. -/
def Obligations.TransfersCopyOneRegister : Prop :=
  ∀ s : State,
    TwoCycleForm 0xAA .tax s { s with x := s.a, p := nz s.p s.a } ∧
    TwoCycleForm 0xA8 .tay s { s with y := s.a, p := nz s.p s.a } ∧
    TwoCycleForm 0x8A .txa s { s with a := s.x, p := nz s.p s.x } ∧
    TwoCycleForm 0x98 .tya s { s with a := s.y, p := nz s.p s.y } ∧
    TwoCycleForm 0xBA .tsx s { s with x := s.sp, p := nz s.p s.sp } ∧
    TwoCycleForm 0x9A .txs s { s with sp := s.x }

/-- PHA and PHP. `R177, R178`. -/
def Obligations.PushInstructionsPushOneByte : Prop :=
  ∀ s : State,
    (∃ t, Form [0x48] .pha s t ∧ OnePushed s t s.a ∧ t.pending = 2) ∧
    (∃ t, Form [0x08] .php s t ∧ OnePushed s t (statusByte s.p s.p.b) ∧ t.pending = 2) ∧
    ∀ par : Params, ∃ t, execWith par .php s = .next t ∧ t.pending = 2 ∧
      OnePushed s t (statusByte s.p (if par.pushBMode = .stored then s.p.b else true))

/-- PLA and PLP. `R179, R180`. -/
def Obligations.PullInstructionsPullOneByte : Prop :=
  ∀ s : State,
    Form [0x68] .pla s
      { s with
        a := s.read (stackCell (s.sp + 1)), p := nz s.p (s.read (stackCell (s.sp + 1))), sp := s.sp + 1
        pc := s.pc + 1, pending := 3 } ∧
    Form [0x28] .plp s
      { s with
        p := Flags.unpack (s.read (stackCell (s.sp + 1))), sp := s.sp + 1, pc := s.pc + 1, pending := 3 }

/-- ADC in every form. `R190, R191`. -/
def Obligations.AdcAddsWithCarry : Prop :=
  ∀ s : State,
    EightForms 0x69 0x65 0x75 0x6D 0x7D 0x79 0x61 0x71
    .adcImm .adcZp .adcZpX .adcAbs .adcAbsX .adcAbsY .adcIndX .adcIndY s (afterAdc s) ∧
    ∀ (par : Params) (i : Instr), isAdc i = true → par.decimalArith = true → s.p.d = true →
      execWith par i s = .refused .decimalArithmetic

/-- SBC in every form, as a subtraction of integers. Derived from 45_arith.md R190, R192, R203. -/
def Obligations.SbcSubtractsWithBorrow : Prop :=
  (∀ s : State,
      EightForms 0xE9 0xE5 0xF5 0xED 0xFD 0xF9 0xE1 0xF1
    .sbcImm .sbcZp .sbcZpX .sbcAbs .sbcAbsX .sbcAbsY .sbcIndX .sbcIndY s (afterSbc s) ∧
      ∀ (par : Params) (i : Instr), isSbc i = true → par.decimalArith = true → s.p.d = true →
        execWith par i s = .refused .decimalArithmetic) ∧
    ∀ (p : Flags) (a m : Byte), p.subWithBorrow a m = p.addWithCarry a (0xFF ^^^ m)

/-- V of an addition is exactly signed overflow, C exactly unsigned carry. Derived from 45_arith.md R190. -/
def Obligations.OverflowIsTheSignedRange : Prop :=
  ∀ (p : Flags) (a m : Byte),
    ((p.addWithCarry a m).2.v = true ↔
      (a.toInt + m.toInt + (bitNat p.c : Int) < -128 ∨ 127 < a.toInt + m.toInt + (bitNat p.c : Int))) ∧
    256 * bitNat (p.addWithCarry a m).2.c + (p.addWithCarry a m).1.toNat = a.toNat + m.toNat + bitNat p.c

/-- CMP, CPX, CPY in every form. `R193, R194, R195, R196`. -/
def Obligations.ComparesSetCZNOnly : Prop :=
  ∀ s : State,
    EightForms 0xC9 0xC5 0xD5 0xCD 0xDD 0xD9 0xC1 0xD1
    .cmpImm .cmpZp .cmpZpX .cmpAbs .cmpAbsX .cmpAbsY .cmpIndX .cmpIndY s (afterCompare s.a s) ∧
    (∀ v, ReadForm [0xE0, v] (.cpxImm v) (.imm v) 2 s (afterCompare s.x s)) ∧
    (∀ z, ReadForm [0xE4, z] (.cpxZp z) (.mem (.zp z)) 3 s (afterCompare s.x s)) ∧
    (∀ lo hi, ReadForm [0xEC, lo, hi] (.cpxAbs (concat hi lo)) (.mem (.abs (concat hi lo))) 4 s (afterCompare s.x s)) ∧
    (∀ v, ReadForm [0xC0, v] (.cpyImm v) (.imm v) 2 s (afterCompare s.y s)) ∧
    (∀ z, ReadForm [0xC4, z] (.cpyZp z) (.mem (.zp z)) 3 s (afterCompare s.y s)) ∧
    (∀ lo hi, ReadForm [0xCC, lo, hi] (.cpyAbs (concat hi lo)) (.mem (.abs (concat hi lo))) 4 s (afterCompare s.y s))

/-- INC and DEC in every form. `R197, R198`. -/
def Obligations.IncAndDecModifyMemory : Prop :=
  ∀ s : State,
    (∀ z, ModifyForm [0xE6, z] (.incZp z) (.zp z) 5 incByte s) ∧
    (∀ z, ModifyForm [0xF6, z] (.incZpX z) (.zpX z) 6 incByte s) ∧
    (∀ lo hi, ModifyForm [0xEE, lo, hi] (.incAbs (concat hi lo)) (.abs (concat hi lo)) 6 incByte s) ∧
    (∀ lo hi, ModifyForm [0xFE, lo, hi] (.incAbsX (concat hi lo)) (.absX (concat hi lo)) 7 incByte s) ∧
    (∀ z, ModifyForm [0xC6, z] (.decZp z) (.zp z) 5 decByte s) ∧
    (∀ z, ModifyForm [0xD6, z] (.decZpX z) (.zpX z) 6 decByte s) ∧
    (∀ lo hi, ModifyForm [0xCE, lo, hi] (.decAbs (concat hi lo)) (.abs (concat hi lo)) 6 decByte s) ∧
    (∀ lo hi, ModifyForm [0xDE, lo, hi] (.decAbsX (concat hi lo)) (.absX (concat hi lo)) 7 decByte s)

/-- INX, INY, DEX, DEY. `R199, R200, R201, R202`. -/
def Obligations.IndexIncrementsAndDecrements : Prop :=
  ∀ s : State,
    TwoCycleForm 0xE8 .inx s
      { s with x := BitVec.ofNat 8 (s.x.toNat + 1), p := nz s.p (BitVec.ofNat 8 (s.x.toNat + 1)) } ∧
    TwoCycleForm 0xC8 .iny s
      { s with y := BitVec.ofNat 8 (s.y.toNat + 1), p := nz s.p (BitVec.ofNat 8 (s.y.toNat + 1)) } ∧
    TwoCycleForm 0xCA .dex s
      { s with x := BitVec.ofNat 8 (s.x.toNat + 255), p := nz s.p (BitVec.ofNat 8 (s.x.toNat + 255)) } ∧
    TwoCycleForm 0x88 .dey s
      { s with y := BitVec.ofNat 8 (s.y.toNat + 255), p := nz s.p (BitVec.ofNat 8 (s.y.toNat + 255)) }

/-- AND, ORA, EOR in every form. `R220, R221, R222`. -/
def Obligations.LogicOnTheAccumulator : Prop :=
  ∀ s : State,
    EightForms 0x29 0x25 0x35 0x2D 0x3D 0x39 0x21 0x31
    .andImm .andZp .andZpX .andAbs .andAbsX .andAbsY .andIndX .andIndY s (fun m => afterLdA s (s.a &&& m)) ∧
    EightForms 0x09 0x05 0x15 0x0D 0x1D 0x19 0x01 0x11
    .oraImm .oraZp .oraZpX .oraAbs .oraAbsX .oraAbsY .oraIndX .oraIndY s (fun m => afterLdA s (s.a ||| m)) ∧
    EightForms 0x49 0x45 0x55 0x4D 0x5D 0x59 0x41 0x51
    .eorImm .eorZp .eorZpX .eorAbs .eorAbsX .eorAbsY .eorIndX .eorIndY s (fun m => afterLdA s (s.a ^^^ m))

/-- BIT in both forms. `R223`. -/
def Obligations.BitTestsTheMemoryOperand : Prop :=
  ∀ s : State,
    (∀ z, ReadForm [0x24, z] (.bitZp z) (.mem (.zp z)) 3 s (afterBit s)) ∧
    (∀ lo hi, ReadForm [0x2C, lo, hi] (.bitAbs (concat hi lo)) (.mem (.abs (concat hi lo))) 4 s (afterBit s))

/-- ASL, LSR, ROL, ROR in every form. `R224, R225, R226, R227, R228`. -/
def Obligations.ShiftsAndRotates : Prop :=
  ∀ s : State,
    AccForm 0x0A .aslAcc aslByte s ∧
    (∀ z, ModifyForm [0x06, z] (.aslZp z) (.zp z) 5 aslByte s) ∧
    (∀ z, ModifyForm [0x16, z] (.aslZpX z) (.zpX z) 6 aslByte s) ∧
    (∀ lo hi, ModifyForm [0x0E, lo, hi] (.aslAbs (concat hi lo)) (.abs (concat hi lo)) 6 aslByte s) ∧
    (∀ lo hi, ModifyForm [0x1E, lo, hi] (.aslAbsX (concat hi lo)) (.absX (concat hi lo)) 7 aslByte s) ∧
    AccForm 0x4A .lsrAcc lsrByte s ∧
    (∀ z, ModifyForm [0x46, z] (.lsrZp z) (.zp z) 5 lsrByte s) ∧
    (∀ z, ModifyForm [0x56, z] (.lsrZpX z) (.zpX z) 6 lsrByte s) ∧
    (∀ lo hi, ModifyForm [0x4E, lo, hi] (.lsrAbs (concat hi lo)) (.abs (concat hi lo)) 6 lsrByte s) ∧
    (∀ lo hi, ModifyForm [0x5E, lo, hi] (.lsrAbsX (concat hi lo)) (.absX (concat hi lo)) 7 lsrByte s) ∧
    AccForm 0x2A .rolAcc rolByte s ∧
    (∀ z, ModifyForm [0x26, z] (.rolZp z) (.zp z) 5 rolByte s) ∧
    (∀ z, ModifyForm [0x36, z] (.rolZpX z) (.zpX z) 6 rolByte s) ∧
    (∀ lo hi, ModifyForm [0x2E, lo, hi] (.rolAbs (concat hi lo)) (.abs (concat hi lo)) 6 rolByte s) ∧
    (∀ lo hi, ModifyForm [0x3E, lo, hi] (.rolAbsX (concat hi lo)) (.absX (concat hi lo)) 7 rolByte s) ∧
    AccForm 0x6A .rorAcc rorByte s ∧
    (∀ z, ModifyForm [0x66, z] (.rorZp z) (.zp z) 5 rorByte s) ∧
    (∀ z, ModifyForm [0x76, z] (.rorZpX z) (.zpX z) 6 rorByte s) ∧
    (∀ lo hi, ModifyForm [0x6E, lo, hi] (.rorAbs (concat hi lo)) (.abs (concat hi lo)) 6 rorByte s) ∧
    (∀ lo hi, ModifyForm [0x7E, lo, hi] (.rorAbsX (concat hi lo)) (.absX (concat hi lo)) 7 rorByte s)

/-- Nine ROL A restore A and C. Derived from 46_logic_shift.md R227. -/
def Obligations.NineRolsRestore : Prop :=
  ∀ s : State,
    (∃ t, execTimes 9 .rolAcc s = some t ∧ t.a = s.a ∧ t.p.c = s.p.c) ∧
    (∃ t, execTimes 9 .rorAcc s = some t ∧ t.a = s.a ∧ t.p.c = s.p.c)

/-- The eight conditional branches. `R250, R251, R252, R253, R254, R255, R256, R257, R258`. -/
def Obligations.BranchesTestOneFlag : Prop :=
  BranchForm 0x90 .bcc (fun s => !s.p.c) ∧ BranchForm 0xB0 .bcs (fun s => s.p.c) ∧
    BranchForm 0xF0 .beq (fun s => s.p.z) ∧ BranchForm 0xD0 .bne (fun s => !s.p.z) ∧
    BranchForm 0x30 .bmi (fun s => s.p.n) ∧ BranchForm 0x10 .bpl (fun s => !s.p.n) ∧
    BranchForm 0x50 .bvc (fun s => !s.p.v) ∧ BranchForm 0x70 .bvs (fun s => s.p.v)

/-- JMP absolute and JMP indirect. `R130, R259, R260`. -/
def Obligations.JumpsReplacePc : Prop :=
  ∀ (s : State) (lo hi : Byte),
    Form [0x4C, lo, hi] (.jmpAbs (concat hi lo)) s { s with pc := concat hi lo, pending := 2 } ∧
    Form [0x6C, lo, hi] (.jmpInd (concat hi lo)) s
      { s with pc := concat (s.read (concat hi (lo + 1))) (s.read (concat hi lo)), pending := 4 } ∧
    ∀ (par : Params) (ptr : Addr),
      execWith par (.jmpInd ptr) s =
        .next
          { s with
            pc :=
              concat
                (s.read
                  (if par.jmpIndPageWrap then BitVec.ofNat 16 (ptr.toNat / 256 * 256 + (ptr.toNat + 1) % 256)
                  else BitVec.ofNat 16 (ptr.toNat + 1)))
                (s.read ptr)
            pending := 4 }

/-- JSR. `R261`. -/
def Obligations.JsrPushesItsLastByteAddress : Prop :=
  ∀ (s : State) (lo hi : Byte),
    ∃ t, Form [0x20, lo, hi] (.jsr (concat hi lo)) s t ∧
      t.a = s.a ∧ t.x = s.x ∧ t.y = s.y ∧ t.p = s.p ∧ t.run = s.run ∧ t.sp = s.sp - 2 ∧ t.pc = concat hi lo ∧
      t.pending = 5 ∧ WordPushed s t (s.pc + 2)

/-- RTS. `R262`. -/
def Obligations.RtsReturnsPastTheStackedAddress : Prop :=
  ∀ s : State, Form [0x60] .rts s { s with pc := stackedWord s (s.sp + 1) + 1, sp := s.sp + 2, pending := 5 }

/-- RTS after JSR returns to the instruction after the JSR. Derived from 47_control.md R261, R262, R263. -/
def Obligations.JsrThenRtsReturns : Prop :=
  ∀ (s : State) (w : Addr),
    ∃ t u, exec (.jsr w) s = .next t ∧ exec .rts t = .next u ∧ u.pc = s.pc + 3 ∧ SameRegisters s u ∧ u.p = s.p

/-- CLC, SEC, CLI, SEI, CLD, SED, CLV and NOP. `R280, R281, R282, R283, R284, R285, R286, R287`. -/
def Obligations.FlagInstructionsAndNop : Prop :=
  ∀ s : State,
    TwoCycleForm 0x18 .clc s { s with p := { s.p with c := false } } ∧
    TwoCycleForm 0x38 .sec s { s with p := { s.p with c := true } } ∧
    TwoCycleForm 0x58 .cli s { s with p := { s.p with i := false } } ∧
    TwoCycleForm 0x78 .sei s { s with p := { s.p with i := true } } ∧
    TwoCycleForm 0xD8 .cld s { s with p := { s.p with d := false } } ∧
    TwoCycleForm 0xF8 .sed s { s with p := { s.p with d := true } } ∧
    TwoCycleForm 0xB8 .clv s { s with p := { s.p with v := false } } ∧
    TwoCycleForm 0xEA .nop s s

/-- BRK: what the trap saves, what it changes, and where control goes. `R288`. -/
def Obligations.BrkTakesTheTrap : Prop :=
  ∀ (s : State) (padding : Byte),
    ∃ t, Form [0x00, padding] .brk s t ∧
      t.a = s.a ∧ t.x = s.x ∧ t.y = s.y ∧ t.run = s.run ∧ t.p = { s.p with b := true, i := true } ∧
      t.sp = s.sp - 3 ∧ t.pc = concat (s.read 0xFFFF) (s.read 0xFFFE) ∧ t.pending = 6 ∧
      ∀ b, t.read b =
        if resolve b = resolve (stackCell s.sp) then BitVec.ofNat 8 ((s.pc + 2).toNat / 256)
        else if resolve b = resolve (stackCell (s.sp - 1)) then BitVec.ofNat 8 ((s.pc + 2).toNat % 256)
        else if resolve b = resolve (stackCell (s.sp - 2)) then statusByte s.p true
        else s.read b

/-- RTI. `R289`. -/
def Obligations.RtiRestoresFlagsAndPc : Prop :=
  ∀ s : State,
    Form [0x40] .rti s
      { s with
        p := Flags.unpack (s.read (stackCell (s.sp + 1))), pc := stackedWord s (s.sp + 2), sp := s.sp + 3
        pending := 5 }

/-- RTI after BRK returns past the padding byte with the old flags and B set. Derived from 60_exceptions.md
R305, R308; 48_flags_system.md R288, R289. -/
def Obligations.BrkThenRtiReturns : Prop :=
  ∀ s : State,
    ∃ t u, exec .brk s = .next t ∧ exec .rti t = .next u ∧ u.pc = s.pc + 2 ∧ SameRegisters s u ∧
      u.p = { s.p with b := true }

/-- The effective address, the operand and the page-cross penalty of every mode, on numbers. Derived from
41_addressing.md R121 to R129, R134 to R136. -/
def Obligations.EffectiveAddresses : Prop :=
  ∀ (s : State) (z v : Byte) (w : Addr),
    let pointer : Nat → Nat := fun k =>
      256 * (s.read (BitVec.ofNat 16 ((k + 1) % 256))).toNat + (s.read (BitVec.ofNat 16 (k % 256))).toNat
    let crossed : Nat → Byte → Nat := fun base r => if base / 256 = (base + r.toNat) % 65536 / 256 then 0 else 1
    ((MemMode.zp z).ea s).toNat = z.toNat ∧
    ((MemMode.zpX z).ea s).toNat = (z.toNat + s.x.toNat) % 256 ∧
    ((MemMode.zpY z).ea s).toNat = (z.toNat + s.y.toNat) % 256 ∧
    (MemMode.abs w).ea s = w ∧
    ((MemMode.absX w).ea s).toNat = (w.toNat + s.x.toNat) % 65536 ∧
    ((MemMode.absY w).ea s).toNat = (w.toNat + s.y.toNat) % 65536 ∧
    ((MemMode.indX z).ea s).toNat = pointer (z.toNat + s.x.toNat) ∧
    ((MemMode.indY z).ea s).toNat = (pointer z.toNat + s.y.toNat) % 65536 ∧
    (Operand.imm v).value s = v ∧ (∀ m : MemMode, (Operand.mem m).value s = s.read (m.ea s)) ∧
    (Operand.imm v).penalty s = 0 ∧ (Operand.mem (.zp z)).penalty s = 0 ∧
    (Operand.mem (.zpX z)).penalty s = 0 ∧ (Operand.mem (.zpY z)).penalty s = 0 ∧
    (Operand.mem (.abs w)).penalty s = 0 ∧ (Operand.mem (.indX z)).penalty s = 0 ∧
    (Operand.mem (.absX w)).penalty s = crossed w.toNat s.x ∧
    (Operand.mem (.absY w)).penalty s = crossed w.toNat s.y ∧
    (Operand.mem (.indY z)).penalty s = crossed (pointer z.toNat) s.y

/-- A, X, Y, SP and memory are written only by the instructions the spec names. Derived from 10_state.md R21 to
R24; 41_addressing.md R136. -/
def Obligations.RegistersAreWrittenOnlyByTheirInstructions : Prop :=
  ∀ (i : Instr) (s t : State), exec i s = .next t →
    (writesA i = false → t.a = s.a) ∧ (writesX i = false → t.x = s.x) ∧ (writesY i = false → t.y = s.y) ∧
    (writesSp i = false → t.sp = s.sp) ∧ (writesMem i = false → t.mem = s.mem)

/-- Each flag is written only by the instructions the spec names. Derived from 10_state.md R26, R31. -/
def Obligations.FlagsAreWrittenOnlyByTheirInstructions : Prop :=
  ∀ (i : Instr) (s t : State), exec i s = .next t →
    (writesC i = false → t.p.c = s.p.c) ∧ (writesNZ i = false → t.p.z = s.p.z ∧ t.p.n = s.p.n) ∧
    (writesI i = false → t.p.i = s.p.i) ∧ (writesD i = false → t.p.d = s.p.d) ∧
    (writesB i = false → t.p.b = s.p.b) ∧ (writesV i = false → t.p.v = s.p.v)

/-- No instruction reads pending or the run state; only PHP and BRK read I. Derived from 70_reset_and_hazards.md
R341; 60_exceptions.md R306. -/
def Obligations.InstructionsDoNotReadPendingRunOrI : Prop :=
  ∀ (i : Instr) (s : State),
    (∀ n, exec i { s with pending := n } = exec i s) ∧
    (∀ (r : RunState) (t : State), exec i s = .next t → exec i { s with run := r } = .next { t with run := r }) ∧
    (i ≠ .php → i ≠ .brk → ∀ (flag : Bool) (t : State), exec i s = .next t →
      ∃ t', exec i { s with p := { s.p with i := flag } } = .next t' ∧
        { t' with p := { t'.p with i := t.p.i } } = t)

/-- D has no effect on ADC and SBC, or refuses them under DECIMAL_ARITH. Derived from 45_arith.md R203. -/
def Obligations.DecimalArithmeticIsRefusedOrAbsent : Prop :=
  (∀ (i : Instr) (s : State), (isAdc i || isSbc i) = true →
      (∀ par : Params, par.decimalArith = false →
        ∀ (flag : Bool) (t : State), execWith par i s = .next t →
          execWith par i { s with p := { s.p with d := flag } } = .next { t with p := { t.p with d := flag } }) ∧
      (∀ par : Params, par.decimalArith = true →
        execWith par i s = if s.p.d then .refused .decimalArithmetic else exec i s)) ∧
    Config.params.decimalArith = false
end

