-- ==== Sys2Proof/Laws/Bits.lean ====
section
/-! SUPPORT. Taking a word apart and putting it together, through the numbers. -/

namespace Sys2Proof.Machine

theorem concat_toNat (hi lo : Byte) : (concat hi lo).toNat = hi.toNat * 256 + lo.toNat := by
  simp only [concat, BitVec.toNat_append]
  rw [← Nat.shiftLeft_add_eq_or_of_lt lo.isLt, Nat.shiftLeft_eq]

theorem lowByte_toNat (w : Addr) : (lowByte w).toNat = w.toNat % 256 := by
  simp [lowByte]

theorem highByte_toNat (w : Addr) : (highByte w).toNat = w.toNat / 256 := by
  have := w.isLt
  simp only [highByte, BitVec.extractLsb'_toNat, Nat.shiftRight_eq_div_pow]
  omega

@[simp] theorem zext16_toNat (b : Byte) : (zext16 b).toNat = b.toNat := by
  simp only [zext16, BitVec.toNat_setWidth]
  omega

@[simp] theorem lowByte_concat (hi lo : Byte) : lowByte (concat hi lo) = lo := by
  apply BitVec.eq_of_toNat_eq
  rw [lowByte_toNat, concat_toNat]
  omega

@[simp] theorem highByte_concat (hi lo : Byte) : highByte (concat hi lo) = hi := by
  apply BitVec.eq_of_toNat_eq
  rw [highByte_toNat, concat_toNat]
  omega

@[simp] theorem concat_highByte_lowByte (w : Addr) : concat (highByte w) (lowByte w) = w := by
  apply BitVec.eq_of_toNat_eq
  rw [concat_toNat, highByte_toNat, lowByte_toNat]
  omega

end Sys2Proof.Machine
end

