-- ==== Sys2Proof/Laws/State.lean ====
section
/-! SUPPORT. One lemma for each field of State under each update, so that no proof unfolds a record update, and what a
read sees after an update that leaves memory alone. -/

namespace Sys2Proof.Machine

/-! ### `setA` -/

@[simp] theorem State.setA_a (s : State) (v : Byte) : (s.setA v).a = v := rfl
@[simp] theorem State.setA_x (s : State) (v : Byte) : (s.setA v).x = s.x := rfl
@[simp] theorem State.setA_y (s : State) (v : Byte) : (s.setA v).y = s.y := rfl
@[simp] theorem State.setA_sp (s : State) (v : Byte) : (s.setA v).sp = s.sp := rfl
@[simp] theorem State.setA_pc (s : State) (v : Byte) : (s.setA v).pc = s.pc := rfl
@[simp] theorem State.setA_p (s : State) (v : Byte) : (s.setA v).p = s.p := rfl
@[simp] theorem State.setA_pending (s : State) (v : Byte) : (s.setA v).pending = s.pending := rfl
@[simp] theorem State.setA_run (s : State) (v : Byte) : (s.setA v).run = s.run := rfl
@[simp] theorem State.setA_mem (s : State) (v : Byte) : (s.setA v).mem = s.mem := rfl
@[simp] theorem State.setA_read (s : State) (v : Byte) (b : Addr) : (s.setA v).read b = s.read b := rfl

/-! ### `setX` -/

@[simp] theorem State.setX_a (s : State) (v : Byte) : (s.setX v).a = s.a := rfl
@[simp] theorem State.setX_x (s : State) (v : Byte) : (s.setX v).x = v := rfl
@[simp] theorem State.setX_y (s : State) (v : Byte) : (s.setX v).y = s.y := rfl
@[simp] theorem State.setX_sp (s : State) (v : Byte) : (s.setX v).sp = s.sp := rfl
@[simp] theorem State.setX_pc (s : State) (v : Byte) : (s.setX v).pc = s.pc := rfl
@[simp] theorem State.setX_p (s : State) (v : Byte) : (s.setX v).p = s.p := rfl
@[simp] theorem State.setX_pending (s : State) (v : Byte) : (s.setX v).pending = s.pending := rfl
@[simp] theorem State.setX_run (s : State) (v : Byte) : (s.setX v).run = s.run := rfl
@[simp] theorem State.setX_mem (s : State) (v : Byte) : (s.setX v).mem = s.mem := rfl
@[simp] theorem State.setX_read (s : State) (v : Byte) (b : Addr) : (s.setX v).read b = s.read b := rfl

/-! ### `setY` -/

@[simp] theorem State.setY_a (s : State) (v : Byte) : (s.setY v).a = s.a := rfl
@[simp] theorem State.setY_x (s : State) (v : Byte) : (s.setY v).x = s.x := rfl
@[simp] theorem State.setY_y (s : State) (v : Byte) : (s.setY v).y = v := rfl
@[simp] theorem State.setY_sp (s : State) (v : Byte) : (s.setY v).sp = s.sp := rfl
@[simp] theorem State.setY_pc (s : State) (v : Byte) : (s.setY v).pc = s.pc := rfl
@[simp] theorem State.setY_p (s : State) (v : Byte) : (s.setY v).p = s.p := rfl
@[simp] theorem State.setY_pending (s : State) (v : Byte) : (s.setY v).pending = s.pending := rfl
@[simp] theorem State.setY_run (s : State) (v : Byte) : (s.setY v).run = s.run := rfl
@[simp] theorem State.setY_mem (s : State) (v : Byte) : (s.setY v).mem = s.mem := rfl
@[simp] theorem State.setY_read (s : State) (v : Byte) (b : Addr) : (s.setY v).read b = s.read b := rfl

/-! ### `setSp` -/

@[simp] theorem State.setSp_a (s : State) (v : Byte) : (s.setSp v).a = s.a := rfl
@[simp] theorem State.setSp_x (s : State) (v : Byte) : (s.setSp v).x = s.x := rfl
@[simp] theorem State.setSp_y (s : State) (v : Byte) : (s.setSp v).y = s.y := rfl
@[simp] theorem State.setSp_sp (s : State) (v : Byte) : (s.setSp v).sp = v := rfl
@[simp] theorem State.setSp_pc (s : State) (v : Byte) : (s.setSp v).pc = s.pc := rfl
@[simp] theorem State.setSp_p (s : State) (v : Byte) : (s.setSp v).p = s.p := rfl
@[simp] theorem State.setSp_pending (s : State) (v : Byte) : (s.setSp v).pending = s.pending := rfl
@[simp] theorem State.setSp_run (s : State) (v : Byte) : (s.setSp v).run = s.run := rfl
@[simp] theorem State.setSp_mem (s : State) (v : Byte) : (s.setSp v).mem = s.mem := rfl
@[simp] theorem State.setSp_read (s : State) (v : Byte) (b : Addr) : (s.setSp v).read b = s.read b := rfl

/-! ### `setPc` -/

@[simp] theorem State.setPc_a (s : State) (w : Addr) : (s.setPc w).a = s.a := rfl
@[simp] theorem State.setPc_x (s : State) (w : Addr) : (s.setPc w).x = s.x := rfl
@[simp] theorem State.setPc_y (s : State) (w : Addr) : (s.setPc w).y = s.y := rfl
@[simp] theorem State.setPc_sp (s : State) (w : Addr) : (s.setPc w).sp = s.sp := rfl
@[simp] theorem State.setPc_pc (s : State) (w : Addr) : (s.setPc w).pc = w := rfl
@[simp] theorem State.setPc_p (s : State) (w : Addr) : (s.setPc w).p = s.p := rfl
@[simp] theorem State.setPc_pending (s : State) (w : Addr) : (s.setPc w).pending = s.pending := rfl
@[simp] theorem State.setPc_run (s : State) (w : Addr) : (s.setPc w).run = s.run := rfl
@[simp] theorem State.setPc_mem (s : State) (w : Addr) : (s.setPc w).mem = s.mem := rfl
@[simp] theorem State.setPc_read (s : State) (w : Addr) (b : Addr) : (s.setPc w).read b = s.read b := rfl

/-! ### `setP` -/

@[simp] theorem State.setP_a (s : State) (q : Flags) : (s.setP q).a = s.a := rfl
@[simp] theorem State.setP_x (s : State) (q : Flags) : (s.setP q).x = s.x := rfl
@[simp] theorem State.setP_y (s : State) (q : Flags) : (s.setP q).y = s.y := rfl
@[simp] theorem State.setP_sp (s : State) (q : Flags) : (s.setP q).sp = s.sp := rfl
@[simp] theorem State.setP_pc (s : State) (q : Flags) : (s.setP q).pc = s.pc := rfl
@[simp] theorem State.setP_p (s : State) (q : Flags) : (s.setP q).p = q := rfl
@[simp] theorem State.setP_pending (s : State) (q : Flags) : (s.setP q).pending = s.pending := rfl
@[simp] theorem State.setP_run (s : State) (q : Flags) : (s.setP q).run = s.run := rfl
@[simp] theorem State.setP_mem (s : State) (q : Flags) : (s.setP q).mem = s.mem := rfl
@[simp] theorem State.setP_read (s : State) (q : Flags) (b : Addr) : (s.setP q).read b = s.read b := rfl

/-! ### `setNZ` -/

@[simp] theorem State.setNZ_a (s : State) (v : Byte) : (s.setNZ v).a = s.a := rfl
@[simp] theorem State.setNZ_x (s : State) (v : Byte) : (s.setNZ v).x = s.x := rfl
@[simp] theorem State.setNZ_y (s : State) (v : Byte) : (s.setNZ v).y = s.y := rfl
@[simp] theorem State.setNZ_sp (s : State) (v : Byte) : (s.setNZ v).sp = s.sp := rfl
@[simp] theorem State.setNZ_pc (s : State) (v : Byte) : (s.setNZ v).pc = s.pc := rfl
@[simp] theorem State.setNZ_p (s : State) (v : Byte) : (s.setNZ v).p = s.p.setNZ v := rfl
@[simp] theorem State.setNZ_pending (s : State) (v : Byte) : (s.setNZ v).pending = s.pending := rfl
@[simp] theorem State.setNZ_run (s : State) (v : Byte) : (s.setNZ v).run = s.run := rfl
@[simp] theorem State.setNZ_mem (s : State) (v : Byte) : (s.setNZ v).mem = s.mem := rfl
@[simp] theorem State.setNZ_read (s : State) (v : Byte) (b : Addr) : (s.setNZ v).read b = s.read b := rfl

/-! ### `advance` -/

@[simp] theorem State.advance_a (s : State) (n : Nat) : (s.advance n).a = s.a := rfl
@[simp] theorem State.advance_x (s : State) (n : Nat) : (s.advance n).x = s.x := rfl
@[simp] theorem State.advance_y (s : State) (n : Nat) : (s.advance n).y = s.y := rfl
@[simp] theorem State.advance_sp (s : State) (n : Nat) : (s.advance n).sp = s.sp := rfl
@[simp] theorem State.advance_pc (s : State) (n : Nat) : (s.advance n).pc = s.pc + BitVec.ofNat 16 n := rfl
@[simp] theorem State.advance_p (s : State) (n : Nat) : (s.advance n).p = s.p := rfl
@[simp] theorem State.advance_pending (s : State) (n : Nat) : (s.advance n).pending = s.pending := rfl
@[simp] theorem State.advance_run (s : State) (n : Nat) : (s.advance n).run = s.run := rfl
@[simp] theorem State.advance_mem (s : State) (n : Nat) : (s.advance n).mem = s.mem := rfl
@[simp] theorem State.advance_read (s : State) (n : Nat) (b : Addr) : (s.advance n).read b = s.read b := rfl

/-! ### `stall` -/

@[simp] theorem State.stall_a (s : State) (cost : Nat) : (s.stall cost).a = s.a := rfl
@[simp] theorem State.stall_x (s : State) (cost : Nat) : (s.stall cost).x = s.x := rfl
@[simp] theorem State.stall_y (s : State) (cost : Nat) : (s.stall cost).y = s.y := rfl
@[simp] theorem State.stall_sp (s : State) (cost : Nat) : (s.stall cost).sp = s.sp := rfl
@[simp] theorem State.stall_pc (s : State) (cost : Nat) : (s.stall cost).pc = s.pc := rfl
@[simp] theorem State.stall_p (s : State) (cost : Nat) : (s.stall cost).p = s.p := rfl
@[simp] theorem State.stall_pending (s : State) (cost : Nat) : (s.stall cost).pending = cost - 1 := rfl
@[simp] theorem State.stall_run (s : State) (cost : Nat) : (s.stall cost).run = s.run := rfl
@[simp] theorem State.stall_mem (s : State) (cost : Nat) : (s.stall cost).mem = s.mem := rfl
@[simp] theorem State.stall_read (s : State) (cost : Nat) (b : Addr) : (s.stall cost).read b = s.read b := rfl

/-! ### `setPending` -/

@[simp] theorem State.setPending_a (s : State) (n : Nat) : (s.setPending n).a = s.a := rfl
@[simp] theorem State.setPending_x (s : State) (n : Nat) : (s.setPending n).x = s.x := rfl
@[simp] theorem State.setPending_y (s : State) (n : Nat) : (s.setPending n).y = s.y := rfl
@[simp] theorem State.setPending_sp (s : State) (n : Nat) : (s.setPending n).sp = s.sp := rfl
@[simp] theorem State.setPending_pc (s : State) (n : Nat) : (s.setPending n).pc = s.pc := rfl
@[simp] theorem State.setPending_p (s : State) (n : Nat) : (s.setPending n).p = s.p := rfl
@[simp] theorem State.setPending_pending (s : State) (n : Nat) : (s.setPending n).pending = n := rfl
@[simp] theorem State.setPending_run (s : State) (n : Nat) : (s.setPending n).run = s.run := rfl
@[simp] theorem State.setPending_mem (s : State) (n : Nat) : (s.setPending n).mem = s.mem := rfl
@[simp] theorem State.setPending_read (s : State) (n : Nat) (b : Addr) : (s.setPending n).read b = s.read b := rfl

/-! ### `halt` -/

@[simp] theorem State.halt_a (s : State) (f : OpcodeFault) : (s.halt f).a = s.a := rfl
@[simp] theorem State.halt_x (s : State) (f : OpcodeFault) : (s.halt f).x = s.x := rfl
@[simp] theorem State.halt_y (s : State) (f : OpcodeFault) : (s.halt f).y = s.y := rfl
@[simp] theorem State.halt_sp (s : State) (f : OpcodeFault) : (s.halt f).sp = s.sp := rfl
@[simp] theorem State.halt_pc (s : State) (f : OpcodeFault) : (s.halt f).pc = s.pc := rfl
@[simp] theorem State.halt_p (s : State) (f : OpcodeFault) : (s.halt f).p = s.p := rfl
@[simp] theorem State.halt_pending (s : State) (f : OpcodeFault) : (s.halt f).pending = s.pending := rfl
@[simp] theorem State.halt_run (s : State) (f : OpcodeFault) : (s.halt f).run = .halted f := rfl
@[simp] theorem State.halt_mem (s : State) (f : OpcodeFault) : (s.halt f).mem = s.mem := rfl
@[simp] theorem State.halt_read (s : State) (f : OpcodeFault) (b : Addr) : (s.halt f).read b = s.read b := rfl

/-! ### `write` -/

@[simp] theorem State.write_a (s : State) (k : Addr) (v : Byte) : (s.write k v).a = s.a := rfl
@[simp] theorem State.write_x (s : State) (k : Addr) (v : Byte) : (s.write k v).x = s.x := rfl
@[simp] theorem State.write_y (s : State) (k : Addr) (v : Byte) : (s.write k v).y = s.y := rfl
@[simp] theorem State.write_sp (s : State) (k : Addr) (v : Byte) : (s.write k v).sp = s.sp := rfl
@[simp] theorem State.write_pc (s : State) (k : Addr) (v : Byte) : (s.write k v).pc = s.pc := rfl
@[simp] theorem State.write_p (s : State) (k : Addr) (v : Byte) : (s.write k v).p = s.p := rfl
@[simp] theorem State.write_pending (s : State) (k : Addr) (v : Byte) : (s.write k v).pending = s.pending := rfl
@[simp] theorem State.write_run (s : State) (k : Addr) (v : Byte) : (s.write k v).run = s.run := rfl
@[simp] theorem State.write_mem (s : State) (k : Addr) (v : Byte) : (s.write k v).mem = s.mem.store (resolve k).toNat v := rfl

/-! ### `push` -/

@[simp] theorem State.push_a (s : State) (v : Byte) : (s.push v).a = s.a := rfl
@[simp] theorem State.push_x (s : State) (v : Byte) : (s.push v).x = s.x := rfl
@[simp] theorem State.push_y (s : State) (v : Byte) : (s.push v).y = s.y := rfl
@[simp] theorem State.push_sp (s : State) (v : Byte) : (s.push v).sp = s.sp - 1 := rfl
@[simp] theorem State.push_pc (s : State) (v : Byte) : (s.push v).pc = s.pc := rfl
@[simp] theorem State.push_p (s : State) (v : Byte) : (s.push v).p = s.p := rfl
@[simp] theorem State.push_pending (s : State) (v : Byte) : (s.push v).pending = s.pending := rfl
@[simp] theorem State.push_run (s : State) (v : Byte) : (s.push v).run = s.run := rfl
@[simp] theorem State.push_mem (s : State) (v : Byte) : (s.push v).mem = s.mem.store (resolve (stackAddr s.sp)).toNat v := rfl

/-! ### `pop` and `pop16` -/

@[simp] theorem State.pop_value (s : State) : s.pop.1 = s.read (stackAddr (s.sp + 1)) := rfl
@[simp] theorem State.pop_state (s : State) : s.pop.2 = s.setSp (s.sp + 1) := rfl
@[simp] theorem State.pop16_value (s : State) :
    s.pop16.1 = concat (s.read (stackAddr (s.sp + 1 + 1))) (s.read (stackAddr (s.sp + 1))) := rfl
@[simp] theorem State.pop16_state (s : State) : s.pop16.2 = s.setSp (s.sp + 1 + 1) := rfl

/-! ### `resetOp` and `powerOn` -/

@[simp] theorem State.resetOp_a (s : State) (v : Byte) : (s.resetOp v).a = s.a := rfl
@[simp] theorem State.resetOp_x (s : State) (v : Byte) : (s.resetOp v).x = s.x := rfl
@[simp] theorem State.resetOp_y (s : State) (v : Byte) : (s.resetOp v).y = s.y := rfl
@[simp] theorem State.resetOp_sp (s : State) (v : Byte) : (s.resetOp v).sp = v := rfl
@[simp] theorem State.resetOp_pc (s : State) (v : Byte) : (s.resetOp v).pc = s.read16 resetVector := rfl
@[simp] theorem State.resetOp_p (s : State) (v : Byte) : (s.resetOp v).p = s.p := rfl
@[simp] theorem State.resetOp_pending (s : State) (v : Byte) : (s.resetOp v).pending = 0 := rfl
@[simp] theorem State.resetOp_run (s : State) (v : Byte) : (s.resetOp v).run = .running := rfl
@[simp] theorem State.resetOp_mem (s : State) (v : Byte) : (s.resetOp v).mem = s.mem := rfl
@[simp] theorem powerOn_a (d : PowerOn) : (powerOn d).a = d.a := rfl
@[simp] theorem powerOn_x (d : PowerOn) : (powerOn d).x = d.x := rfl
@[simp] theorem powerOn_y (d : PowerOn) : (powerOn d).y = d.y := rfl
@[simp] theorem powerOn_sp (d : PowerOn) : (powerOn d).sp = d.sp := rfl
@[simp] theorem powerOn_pc (d : PowerOn) : (powerOn d).pc = d.pc := rfl
@[simp] theorem powerOn_p (d : PowerOn) : (powerOn d).p = d.p := rfl
@[simp] theorem powerOn_pending (d : PowerOn) : (powerOn d).pending = 0 := rfl
@[simp] theorem powerOn_run (d : PowerOn) : (powerOn d).run = .running := rfl
@[simp] theorem powerOn_mem (d : PowerOn) : (powerOn d).mem = d.mem := rfl

/-! ### Flags -/

@[simp] theorem Flags.setNZ_c (p : Flags) (r : Byte) : (p.setNZ r).c = p.c := rfl
@[simp] theorem Flags.setNZ_z (p : Flags) (r : Byte) : (p.setNZ r).z = (r == 0) := rfl
@[simp] theorem Flags.setNZ_i (p : Flags) (r : Byte) : (p.setNZ r).i = p.i := rfl
@[simp] theorem Flags.setNZ_d (p : Flags) (r : Byte) : (p.setNZ r).d = p.d := rfl
@[simp] theorem Flags.setNZ_b (p : Flags) (r : Byte) : (p.setNZ r).b = p.b := rfl
@[simp] theorem Flags.setNZ_v (p : Flags) (r : Byte) : (p.setNZ r).v = p.v := rfl
@[simp] theorem Flags.setNZ_n (p : Flags) (r : Byte) : (p.setNZ r).n = bit7 r := rfl
@[simp] theorem Flags.compare_c (p : Flags) (r m : Byte) : (p.compare r m).c = decide (m.toNat ≤ r.toNat) := rfl
@[simp] theorem Flags.compare_z (p : Flags) (r m : Byte) : (p.compare r m).z = (r - m == 0) := rfl
@[simp] theorem Flags.compare_i (p : Flags) (r m : Byte) : (p.compare r m).i = p.i := rfl
@[simp] theorem Flags.compare_d (p : Flags) (r m : Byte) : (p.compare r m).d = p.d := rfl
@[simp] theorem Flags.compare_b (p : Flags) (r m : Byte) : (p.compare r m).b = p.b := rfl
@[simp] theorem Flags.compare_v (p : Flags) (r m : Byte) : (p.compare r m).v = p.v := rfl
@[simp] theorem Flags.compare_n (p : Flags) (r m : Byte) : (p.compare r m).n = bit7 (r - m) := rfl
@[simp] theorem Flags.bitTest_c (p : Flags) (r m : Byte) : (p.bitTest r m).c = p.c := rfl
@[simp] theorem Flags.bitTest_z (p : Flags) (r m : Byte) : (p.bitTest r m).z = (r &&& m == 0) := rfl
@[simp] theorem Flags.bitTest_i (p : Flags) (r m : Byte) : (p.bitTest r m).i = p.i := rfl
@[simp] theorem Flags.bitTest_d (p : Flags) (r m : Byte) : (p.bitTest r m).d = p.d := rfl
@[simp] theorem Flags.bitTest_b (p : Flags) (r m : Byte) : (p.bitTest r m).b = p.b := rfl
@[simp] theorem Flags.bitTest_v (p : Flags) (r m : Byte) : (p.bitTest r m).v = bit6 m := rfl
@[simp] theorem Flags.bitTest_n (p : Flags) (r m : Byte) : (p.bitTest r m).n = bit7 m := rfl
@[simp] theorem Flags.asl_result (p : Flags) (m : Byte) : (p.asl m).1 = m <<< 1 := rfl
@[simp] theorem Flags.asl_c (p : Flags) (m : Byte) : (p.asl m).2.c = bit7 m := rfl
@[simp] theorem Flags.asl_z (p : Flags) (m : Byte) : (p.asl m).2.z = (m <<< 1 == 0) := rfl
@[simp] theorem Flags.asl_i (p : Flags) (m : Byte) : (p.asl m).2.i = p.i := rfl
@[simp] theorem Flags.asl_d (p : Flags) (m : Byte) : (p.asl m).2.d = p.d := rfl
@[simp] theorem Flags.asl_b (p : Flags) (m : Byte) : (p.asl m).2.b = p.b := rfl
@[simp] theorem Flags.asl_v (p : Flags) (m : Byte) : (p.asl m).2.v = p.v := rfl
@[simp] theorem Flags.asl_n (p : Flags) (m : Byte) : (p.asl m).2.n = bit7 (m <<< 1) := rfl
@[simp] theorem Flags.lsr_result (p : Flags) (m : Byte) : (p.lsr m).1 = m >>> 1 := rfl
@[simp] theorem Flags.lsr_c (p : Flags) (m : Byte) : (p.lsr m).2.c = bit0 m := rfl
@[simp] theorem Flags.lsr_z (p : Flags) (m : Byte) : (p.lsr m).2.z = (m >>> 1 == 0) := rfl
@[simp] theorem Flags.lsr_i (p : Flags) (m : Byte) : (p.lsr m).2.i = p.i := rfl
@[simp] theorem Flags.lsr_d (p : Flags) (m : Byte) : (p.lsr m).2.d = p.d := rfl
@[simp] theorem Flags.lsr_b (p : Flags) (m : Byte) : (p.lsr m).2.b = p.b := rfl
@[simp] theorem Flags.lsr_v (p : Flags) (m : Byte) : (p.lsr m).2.v = p.v := rfl
@[simp] theorem Flags.lsr_n (p : Flags) (m : Byte) : (p.lsr m).2.n = bit7 (m >>> 1) := rfl
@[simp] theorem Flags.rol_result (p : Flags) (m : Byte) : (p.rol m).1 = (m <<< 1 ||| bitAt p.c 0) := rfl
@[simp] theorem Flags.rol_c (p : Flags) (m : Byte) : (p.rol m).2.c = bit7 m := rfl
@[simp] theorem Flags.rol_z (p : Flags) (m : Byte) : (p.rol m).2.z = ((m <<< 1 ||| bitAt p.c 0) == 0) := rfl
@[simp] theorem Flags.rol_i (p : Flags) (m : Byte) : (p.rol m).2.i = p.i := rfl
@[simp] theorem Flags.rol_d (p : Flags) (m : Byte) : (p.rol m).2.d = p.d := rfl
@[simp] theorem Flags.rol_b (p : Flags) (m : Byte) : (p.rol m).2.b = p.b := rfl
@[simp] theorem Flags.rol_v (p : Flags) (m : Byte) : (p.rol m).2.v = p.v := rfl
@[simp] theorem Flags.rol_n (p : Flags) (m : Byte) : (p.rol m).2.n = bit7 ((m <<< 1 ||| bitAt p.c 0)) := rfl
@[simp] theorem Flags.ror_result (p : Flags) (m : Byte) : (p.ror m).1 = (m >>> 1 ||| bitAt p.c 7) := rfl
@[simp] theorem Flags.ror_c (p : Flags) (m : Byte) : (p.ror m).2.c = bit0 m := rfl
@[simp] theorem Flags.ror_z (p : Flags) (m : Byte) : (p.ror m).2.z = ((m >>> 1 ||| bitAt p.c 7) == 0) := rfl
@[simp] theorem Flags.ror_i (p : Flags) (m : Byte) : (p.ror m).2.i = p.i := rfl
@[simp] theorem Flags.ror_d (p : Flags) (m : Byte) : (p.ror m).2.d = p.d := rfl
@[simp] theorem Flags.ror_b (p : Flags) (m : Byte) : (p.ror m).2.b = p.b := rfl
@[simp] theorem Flags.ror_v (p : Flags) (m : Byte) : (p.ror m).2.v = p.v := rfl
@[simp] theorem Flags.ror_n (p : Flags) (m : Byte) : (p.ror m).2.n = bit7 ((m >>> 1 ||| bitAt p.c 7)) := rfl
@[simp] theorem Flags.inc_result (p : Flags) (m : Byte) : (p.inc m).1 = (m + 1) := rfl
@[simp] theorem Flags.inc_c (p : Flags) (m : Byte) : (p.inc m).2.c = p.c := rfl
@[simp] theorem Flags.inc_z (p : Flags) (m : Byte) : (p.inc m).2.z = ((m + 1) == 0) := rfl
@[simp] theorem Flags.inc_i (p : Flags) (m : Byte) : (p.inc m).2.i = p.i := rfl
@[simp] theorem Flags.inc_d (p : Flags) (m : Byte) : (p.inc m).2.d = p.d := rfl
@[simp] theorem Flags.inc_b (p : Flags) (m : Byte) : (p.inc m).2.b = p.b := rfl
@[simp] theorem Flags.inc_v (p : Flags) (m : Byte) : (p.inc m).2.v = p.v := rfl
@[simp] theorem Flags.inc_n (p : Flags) (m : Byte) : (p.inc m).2.n = bit7 ((m + 1)) := rfl
@[simp] theorem Flags.dec_result (p : Flags) (m : Byte) : (p.dec m).1 = (m - 1) := rfl
@[simp] theorem Flags.dec_c (p : Flags) (m : Byte) : (p.dec m).2.c = p.c := rfl
@[simp] theorem Flags.dec_z (p : Flags) (m : Byte) : (p.dec m).2.z = ((m - 1) == 0) := rfl
@[simp] theorem Flags.dec_i (p : Flags) (m : Byte) : (p.dec m).2.i = p.i := rfl
@[simp] theorem Flags.dec_d (p : Flags) (m : Byte) : (p.dec m).2.d = p.d := rfl
@[simp] theorem Flags.dec_b (p : Flags) (m : Byte) : (p.dec m).2.b = p.b := rfl
@[simp] theorem Flags.dec_v (p : Flags) (m : Byte) : (p.dec m).2.v = p.v := rfl
@[simp] theorem Flags.dec_n (p : Flags) (m : Byte) : (p.dec m).2.n = bit7 ((m - 1)) := rfl

end Sys2Proof.Machine
end

