-- ==== Sys2Proof/Laws/Cycle.lean ====
section
/-! SUPPORT. What a step can do, said once. -/

namespace Sys2Proof.Machine

/-- A step that answers a next state is a Stall step, or a Fetch step that ran the fetched instruction. -/
theorem step_next_cases {s t : State} (h : step s = .next t) :
    s.run = .running ∧
      ((s.pending ≠ 0 ∧ t = s.setPending (s.pending - 1)) ∨
        (s.pending = 0 ∧ ∃ i, fetch Config.params s = .ok i ∧ exec i s = .next t)) := by
  unfold step stepCall stepCallWith at h
  split at h
  · simp [outcomeOf] at h
  · rename_i hrun
    refine ⟨hrun, ?_⟩
    split at h
    · rename_i hp
      refine .inr ⟨hp, ?_⟩
      unfold fetchStep at h
      split at h
      · simp [outcomeOf] at h
      · rename_i i hi
        refine ⟨i, hi, ?_⟩
        split at h <;> simp_all [outcomeOf]
    · rename_i hp
      refine .inl ⟨hp, ?_⟩
      simpa [outcomeOf, eq_comm] using h

/-- A step that answers a fault is halted already, or fetched an opcode that is not implemented, or ran an instruction
that faults. -/
theorem step_fault_cases {s : State} {f : Fault} (h : step s = .fault f) :
    (∃ r, s.run = .halted r ∧ f = .unimplementedOpcode r) ∨
      (s.run = .running ∧ s.pending = 0 ∧
        ((∃ r, fetch Config.params s = .error r ∧ f = .unimplementedOpcode r) ∨
          ∃ i, fetch Config.params s = .ok i ∧ exec i s = .fault f)) := by
  unfold step stepCall stepCallWith at h
  split at h
  · rename_i r hr
    simp only [outcomeOf, Host.Outcome.fault.injEq] at h
    exact .inl ⟨r, hr, h.symm⟩
  · rename_i hrun
    refine .inr ⟨hrun, ?_⟩
    split at h
    · rename_i hp
      refine ⟨hp, ?_⟩
      unfold fetchStep at h
      split at h
      · rename_i r hr
        simp only [outcomeOf, Host.Outcome.fault.injEq] at h
        exact .inl ⟨r, hr, h.symm⟩
      · rename_i i hi
        refine .inr ⟨i, hi, ?_⟩
        split at h <;> simp_all [outcomeOf]
    · simp [outcomeOf] at h

/-- A fetch that gives no instruction records the byte at PC and its address (`40_dispatch.md` R106). -/
theorem fetch_error {par : Params} {s : State} {r : OpcodeFault} (h : fetch par s = .error r) :
    r = { op := s.read s.pc, addr := s.pc } := by
  unfold fetch at h
  split at h
  · split at h <;> simp_all
  · simp_all

end Sys2Proof.Machine
end

