-- ==== Sys2Proof/Laws/Memory.lean ====
section
/-! SUPPORT. The backing array: a cell after a store, the canonical form kept by every operation, and equal cells
making equal arrays. -/

namespace Sys2Proof.Machine

theorem Memory.cell_unlist (m : Memory) (key k : Nat) :
    (m.unlist key).cell k = if k = key then Config.unlistedByte else m.cell k := by
  induction m with
  | nil => simp [Memory.unlist, Memory.cell]
  | cons c rest ih =>
    obtain ⟨j, v⟩ := c
    by_cases hj : j = key
    · have : Memory.unlist ((j, v) :: rest) key = Memory.unlist rest key := by simp [Memory.unlist, hj]
      rw [this, ih]
      by_cases hk : k = key
      · simp [hk]
      · simp [Memory.cell, hk, hj, Ne.symm hk]
    · have : Memory.unlist ((j, v) :: rest) key = (j, v) :: Memory.unlist rest key := by simp [Memory.unlist, hj]
      rw [this]
      by_cases hk : j = k
      · subst hk; simp [Memory.cell, hj]
      · simp [Memory.cell, hk, ih]

/-- Inserting a cell whose address is not listed yet adds that cell and no other. -/
theorem Memory.cell_insert (m : Memory) (key : Nat) (v : Byte) (k : Nat) (hfree : ∀ c ∈ m, c.1 ≠ key) :
    (Memory.insert (key, v) m).cell k = if k = key then v else m.cell k := by
  induction m with
  | nil => simp [Memory.insert, Memory.cell, eq_comm]
  | cons c rest ih =>
    obtain ⟨j, u⟩ := c
    have hj : j ≠ key := hfree (j, u) (by simp)
    have ih := ih fun d hd => hfree d (by simp [hd])
    simp only [Memory.insert]
    split
    · by_cases hk : key = k <;> simp [Memory.cell, hk, eq_comm (a := k)]
    · by_cases hk : j = k
      · subst hk; simp [Memory.cell, hj]
      · simp [Memory.cell, hk, ih]

theorem Memory.unlist_free (m : Memory) (key : Nat) : ∀ c ∈ m.unlist key, c.1 ≠ key := by
  simp [Memory.unlist]

/-- A store changes the cell it names and no other, on every list. -/
theorem Memory.cell_store (m : Memory) (key : Nat) (v : Byte) (k : Nat) :
    (m.store key v).cell k = if k = key then v else m.cell k := by
  unfold Memory.store
  split
  · rename_i h; rw [Memory.cell_unlist, h]
  · rw [Memory.cell_insert _ _ _ _ (m.unlist_free key), Memory.cell_unlist]
    split <;> rfl

@[simp] theorem Memory.cell_store_same (m : Memory) (key : Nat) (v : Byte) : (m.store key v).cell key = v := by
  simp [Memory.cell_store]

theorem Memory.cell_store_other (m : Memory) {key k : Nat} (v : Byte) (h : k ≠ key) :
    (m.store key v).cell k = m.cell k := by
  simp [Memory.cell_store, h]

theorem Memory.unlist_wf {m : Memory} (h : m.wf) (key : Nat) : (m.unlist key).wf :=
  ⟨h.1.filter _, fun c hc => h.2 c (List.mem_filter.1 hc).1⟩

theorem Memory.mem_insert (cell : Host.Cell) (m : Memory) (c : Host.Cell) :
    c ∈ Memory.insert cell m ↔ c = cell ∨ c ∈ m := by
  induction m with
  | nil => simp [Memory.insert]
  | cons d rest ih =>
    simp only [Memory.insert]
    split
    · simp
    · simp [ih]; tauto

theorem Memory.insert_rising (cell : Host.Cell) (m : Memory) (hfree : ∀ c ∈ m, c.1 ≠ cell.1)
    (h : m.Pairwise (fun c d => c.1 < d.1)) : (Memory.insert cell m).Pairwise (fun c d => c.1 < d.1) := by
  induction m with
  | nil => simp [Memory.insert]
  | cons d rest ih =>
    rw [List.pairwise_cons] at h
    have hd : d.1 ≠ cell.1 := hfree d (by simp)
    simp only [Memory.insert]
    split
    · rename_i hlt
      refine List.pairwise_cons.2 ⟨fun c hc => ?_, List.pairwise_cons.2 h⟩
      rcases List.mem_cons.1 hc with rfl | hc
      · exact hlt
      · exact hlt.trans (h.1 c hc)
    · rename_i hge
      refine List.pairwise_cons.2 ⟨fun c hc => ?_, ih (fun c hc => hfree c (by simp [hc])) h.2⟩
      rcases (Memory.mem_insert cell rest c).1 hc with rfl | hc
      · omega
      · exact h.1 c hc

/-- A store inside the address space keeps the canonical form. -/
theorem Memory.store_wf {m : Memory} (h : m.wf) {key : Nat} (hkey : key < 65536) (v : Byte) : (m.store key v).wf := by
  unfold Memory.store
  have hu := Memory.unlist_wf h key
  split
  · exact hu
  · rename_i hv
    refine ⟨Memory.insert_rising _ _ (m.unlist_free key) hu.1, fun c hc => ?_⟩
    rcases (Memory.mem_insert _ _ c).1 hc with rfl | hc
    · exact ⟨hkey, hv⟩
    · exact hu.2 c hc

theorem Memory.cell_unlisted {m : Memory} {k : Nat} (h : ∀ c ∈ m, c.1 ≠ k) : m.cell k = Config.unlistedByte := by
  induction m with
  | nil => rfl
  | cons c rest ih =>
    simp [Memory.cell, h c (by simp), ih fun d hd => h d (by simp [hd])]

/-- Canonical arrays with the same cells are the same list. -/
theorem Memory.ext_of_wf {m m' : Memory} (h : m.wf) (h' : m'.wf) (hcell : ∀ k, m.cell k = m'.cell k) : m = m' := by
  have low : ∀ {c : Host.Cell} {rest : Memory} {k : Nat}, Memory.wf (c :: rest) → k ≤ c.1 → ∀ d ∈ rest, d.1 ≠ k := by
    intro c rest k hw hk d hd
    have := (List.pairwise_cons.1 hw.1).1 d hd
    omega
  have tail : ∀ {c : Host.Cell} {rest : Memory}, Memory.wf (c :: rest) → Memory.wf rest := fun hw =>
    ⟨(List.pairwise_cons.1 hw.1).2, fun d hd => hw.2 d (by simp [hd])⟩
  induction m generalizing m' with
  | nil =>
    cases m' with
    | nil => rfl
    | cons c rest =>
      have := hcell c.1
      simp only [Memory.cell, if_true] at this
      exact absurd this.symm (h'.2 c (by simp)).2
  | cons c rest ih =>
    cases m' with
    | nil =>
      have := hcell c.1
      simp only [Memory.cell, if_true] at this
      exact absurd this (h.2 c (by simp)).2
    | cons c' rest' =>
      have hkey : c.1 = c'.1 := by
        rcases Nat.lt_trichotomy c.1 c'.1 with hlt | heq | hgt
        · have h1 := hcell c.1
          simp only [Memory.cell, if_true, if_neg (Nat.ne_of_gt hlt),
            Memory.cell_unlisted (low h' hlt.le)] at h1
          exact absurd h1 (h.2 c (by simp)).2
        · exact heq
        · have h1 := hcell c'.1
          simp only [Memory.cell, if_true, if_neg (Nat.ne_of_gt hgt),
            Memory.cell_unlisted (low h hgt.le)] at h1
          exact absurd h1.symm (h'.2 c' (by simp)).2
      have hval : c.2 = c'.2 := by simpa [Memory.cell, hkey] using hcell c.1
      have hrest : rest = rest' := by
        refine ih (tail h) (tail h') fun k => ?_
        by_cases hk : c.1 = k
        · rw [Memory.cell_unlisted (low h hk.ge), Memory.cell_unlisted (low h' (hkey ▸ hk.ge))]
        · have := hcell k
          simpa [Memory.cell, hk, ← hkey] using this
      rw [hrest, Prod.ext hkey hval]

/-- The reset state's array is canonical. -/
theorem reset_mem_wf : State.reset.mem.wf := by decide

end Sys2Proof.Machine
end

