-- ==== Sys2Proof/Laws/Ops.lean ====
section
/-! SUPPORT. What each shared operation does: the cells a bus write changes, the registers the stack and trap operations
change, and the canonical form kept by all of them. -/

namespace Sys2Proof.Machine

/-- A bus write changes the cell its address resolves to and no other. -/
theorem State.write_cell (s : State) (a : Addr) (v : Byte) (k : Nat) :
    (s.write a v).mem.cell k = if k = (resolve a).toNat then v else s.mem.cell k :=
  Memory.cell_store _ _ _ _

theorem State.write_mem_wf {s : State} (h : s.mem.wf) (a : Addr) (v : Byte) : (s.write a v).mem.wf :=
  Memory.store_wf h (resolve a).isLt v

theorem State.write16_mem_wf {s : State} (h : s.mem.wf) (a w : Addr) : (s.write16 a w).mem.wf :=
  State.write_mem_wf (State.write_mem_wf h _ _) _ _

theorem State.push_mem_wf {s : State} (h : s.mem.wf) (v : Byte) : (s.push v).mem.wf :=
  State.write_mem_wf h _ _

theorem State.push16_mem_wf {s : State} (h : s.mem.wf) (w : Addr) : (s.push16 w).mem.wf :=
  State.push_mem_wf (State.push_mem_wf h _) _

theorem State.writeBytes_mem_wf {s : State} (h : s.mem.wf) (a : Addr) (bs : List Byte) : (s.writeBytes a bs).mem.wf := by
  induction bs generalizing s a with
  | nil => exact h
  | cons v rest ih => exact ih (State.write_mem_wf h a v) (a + 1)

theorem State.takeTrap_mem_wf {s : State} (h : s.mem.wf) (w : Addr) : (s.takeTrap w).mem.wf := by
  have h1 : ((s.push16 w).setP { (s.push16 w).p with b := true }).mem.wf := State.push16_mem_wf h w
  exact State.push_mem_wf h1 _

/-! ### The registers after the stack and trap operations -/

@[simp] theorem State.push16_a (s : State) (w : Addr) : (s.push16 w).a = s.a := rfl
@[simp] theorem State.push16_x (s : State) (w : Addr) : (s.push16 w).x = s.x := rfl
@[simp] theorem State.push16_y (s : State) (w : Addr) : (s.push16 w).y = s.y := rfl
@[simp] theorem State.push16_sp (s : State) (w : Addr) : (s.push16 w).sp = s.sp - 1 - 1 := rfl
@[simp] theorem State.push16_pc (s : State) (w : Addr) : (s.push16 w).pc = s.pc := rfl
@[simp] theorem State.push16_p (s : State) (w : Addr) : (s.push16 w).p = s.p := rfl
@[simp] theorem State.push16_pending (s : State) (w : Addr) : (s.push16 w).pending = s.pending := rfl
@[simp] theorem State.push16_run (s : State) (w : Addr) : (s.push16 w).run = s.run := rfl

@[simp] theorem State.takeTrap_a (s : State) (w : Addr) : (s.takeTrap w).a = s.a := by
  simp [State.takeTrap]
@[simp] theorem State.takeTrap_x (s : State) (w : Addr) : (s.takeTrap w).x = s.x := by
  simp [State.takeTrap]
@[simp] theorem State.takeTrap_y (s : State) (w : Addr) : (s.takeTrap w).y = s.y := by
  simp [State.takeTrap]
@[simp] theorem State.takeTrap_sp (s : State) (w : Addr) : (s.takeTrap w).sp = s.sp - 1 - 1 - 1 := by
  simp [State.takeTrap]
@[simp] theorem State.takeTrap_pending (s : State) (w : Addr) : (s.takeTrap w).pending = s.pending := by
  simp [State.takeTrap]
@[simp] theorem State.takeTrap_run (s : State) (w : Addr) : (s.takeTrap w).run = s.run := by
  simp [State.takeTrap]
@[simp] theorem State.takeTrap_p (s : State) (w : Addr) : (s.takeTrap w).p = { s.p with b := true, i := true } := by
  simp [State.takeTrap]

@[simp] theorem State.returnFromTrap_a (s : State) :
    s.returnFromTrap.a = s.a := by
  simp [State.returnFromTrap]
@[simp] theorem State.returnFromTrap_x (s : State) :
    s.returnFromTrap.x = s.x := by
  simp [State.returnFromTrap]
@[simp] theorem State.returnFromTrap_y (s : State) :
    s.returnFromTrap.y = s.y := by
  simp [State.returnFromTrap]
@[simp] theorem State.returnFromTrap_sp (s : State) :
    s.returnFromTrap.sp = s.sp + 1 + 1 + 1 := by
  simp [State.returnFromTrap]
@[simp] theorem State.returnFromTrap_pc (s : State) :
    s.returnFromTrap.pc = concat (s.read (stackAddr (s.sp + 1 + 1 + 1))) (s.read (stackAddr (s.sp + 1 + 1))) := by
  simp [State.returnFromTrap]
@[simp] theorem State.returnFromTrap_p (s : State) :
    s.returnFromTrap.p = Flags.unpack (s.read (stackAddr (s.sp + 1))) := by
  simp [State.returnFromTrap]
@[simp] theorem State.returnFromTrap_pending (s : State) :
    s.returnFromTrap.pending = s.pending := by
  simp [State.returnFromTrap]
@[simp] theorem State.returnFromTrap_run (s : State) :
    s.returnFromTrap.run = s.run := by
  simp [State.returnFromTrap]
@[simp] theorem State.returnFromTrap_mem (s : State) :
    s.returnFromTrap.mem = s.mem := by
  simp [State.returnFromTrap]

@[simp] theorem State.writeBytes_a (s : State) (a : Addr) (bs : List Byte) : (s.writeBytes a bs).a = s.a := by
  induction bs generalizing s a with
  | nil => rfl
  | cons v rest ih => simp [State.writeBytes, ih]
@[simp] theorem State.writeBytes_x (s : State) (a : Addr) (bs : List Byte) : (s.writeBytes a bs).x = s.x := by
  induction bs generalizing s a with
  | nil => rfl
  | cons v rest ih => simp [State.writeBytes, ih]
@[simp] theorem State.writeBytes_y (s : State) (a : Addr) (bs : List Byte) : (s.writeBytes a bs).y = s.y := by
  induction bs generalizing s a with
  | nil => rfl
  | cons v rest ih => simp [State.writeBytes, ih]
@[simp] theorem State.writeBytes_sp (s : State) (a : Addr) (bs : List Byte) : (s.writeBytes a bs).sp = s.sp := by
  induction bs generalizing s a with
  | nil => rfl
  | cons v rest ih => simp [State.writeBytes, ih]
@[simp] theorem State.writeBytes_pc (s : State) (a : Addr) (bs : List Byte) : (s.writeBytes a bs).pc = s.pc := by
  induction bs generalizing s a with
  | nil => rfl
  | cons v rest ih => simp [State.writeBytes, ih]
@[simp] theorem State.writeBytes_p (s : State) (a : Addr) (bs : List Byte) : (s.writeBytes a bs).p = s.p := by
  induction bs generalizing s a with
  | nil => rfl
  | cons v rest ih => simp [State.writeBytes, ih]
@[simp] theorem State.writeBytes_pending (s : State) (a : Addr) (bs : List Byte) : (s.writeBytes a bs).pending = s.pending := by
  induction bs generalizing s a with
  | nil => rfl
  | cons v rest ih => simp [State.writeBytes, ih]
@[simp] theorem State.writeBytes_run (s : State) (a : Addr) (bs : List Byte) : (s.writeBytes a bs).run = s.run := by
  induction bs generalizing s a with
  | nil => rfl
  | cons v rest ih => simp [State.writeBytes, ih]

end Sys2Proof.Machine
end

