-- ==== Sys2Proof/Laws/Operands.lean ====
section
/-! SUPPORT. What each instruction shape answers: always a next state, and which one. Provers cite these instead of
unfolding a shape. -/

namespace Sys2Proof.Machine

theorem readExec_next (o : Operand) (cycles : Nat) (f : Byte → State → State) (s t : State) :
    readExec o cycles f s = .next t ↔
      t = (f (o.value s) (s.advance (1 + o.operandBytes))).stall (cycles + o.penalty s) := by
  simp [readExec, eq_comm]

theorem writeExec_next (m : MemMode) (cycles : Nat) (v : Byte) (s t : State) :
    writeExec m cycles v s = .next t ↔
      t = ((s.advance (1 + m.operandBytes)).write (m.ea s) v).stall cycles := by
  simp [writeExec, eq_comm]

theorem modifyExec_next (m : MemMode) (cycles : Nat) (f : Flags → Byte → Byte × Flags) (s t : State) :
    modifyExec m cycles f s = .next t ↔
      t = (((s.advance (1 + m.operandBytes)).write (m.ea s) (f s.p (s.read (m.ea s))).1).setP
        (f s.p (s.read (m.ea s))).2).stall cycles := by
  simp [modifyExec, eq_comm]

theorem accExec_next (cycles : Nat) (f : Flags → Byte → Byte × Flags) (s t : State) :
    accExec cycles f s = .next t ↔ t = (((s.advance 1).setA (f s.p s.a).1).setP (f s.p s.a).2).stall cycles := by
  simp [accExec, eq_comm]

theorem impliedExec_next (cycles : Nat) (f : State → State) (s t : State) :
    impliedExec cycles f s = .next t ↔ t = (f (s.advance 1)).stall cycles := by
  simp [impliedExec, eq_comm]

theorem branchExec_next (cycles : Nat) (cond : Bool) (d : Byte) (s t : State) :
    branchExec cycles cond d s = .next t ↔
      (cond = true ∧ t = (s.setPc (s.branchTarget d)).stall
          (cycles + 1 + bitNat (pageCrossed s.branchNext (s.branchTarget d)))) ∨
        (cond = false ∧ t = (s.setPc s.branchNext).stall cycles) := by
  cases cond <;> simp [branchExec, eq_comm]

/-! ### The registers after JSR and RTS -/

@[simp] theorem State.call_a (s : State) (w : Addr) : (s.call w).a = s.a := by simp [State.call]
@[simp] theorem State.call_x (s : State) (w : Addr) : (s.call w).x = s.x := by simp [State.call]
@[simp] theorem State.call_y (s : State) (w : Addr) : (s.call w).y = s.y := by simp [State.call]
@[simp] theorem State.call_p (s : State) (w : Addr) : (s.call w).p = s.p := by simp [State.call]
@[simp] theorem State.call_pending (s : State) (w : Addr) : (s.call w).pending = s.pending := by simp [State.call]
@[simp] theorem State.call_run (s : State) (w : Addr) : (s.call w).run = s.run := by simp [State.call]
@[simp] theorem State.call_sp (s : State) (w : Addr) : (s.call w).sp = s.sp - 1 - 1 := by simp [State.call]
@[simp] theorem State.call_pc (s : State) (w : Addr) : (s.call w).pc = w := by simp [State.call]
@[simp] theorem State.call_read (s : State) (w b : Addr) : (s.call w).read b = (s.push16 s.pc).read b := rfl

@[simp] theorem State.returnSub_a (s : State) : s.returnSub.a = s.a := by simp [State.returnSub]
@[simp] theorem State.returnSub_x (s : State) : s.returnSub.x = s.x := by simp [State.returnSub]
@[simp] theorem State.returnSub_y (s : State) : s.returnSub.y = s.y := by simp [State.returnSub]
@[simp] theorem State.returnSub_p (s : State) : s.returnSub.p = s.p := by simp [State.returnSub]
@[simp] theorem State.returnSub_pending (s : State) : s.returnSub.pending = s.pending := by simp [State.returnSub]
@[simp] theorem State.returnSub_run (s : State) : s.returnSub.run = s.run := by simp [State.returnSub]
@[simp] theorem State.returnSub_mem (s : State) : s.returnSub.mem = s.mem := by simp [State.returnSub]
@[simp] theorem State.returnSub_sp (s : State) : s.returnSub.sp = s.sp + 1 + 1 := by simp [State.returnSub]
@[simp] theorem State.returnSub_pc (s : State) : s.returnSub.pc = s.pop16.1 + 1 := by simp [State.returnSub]

/-- ADC and SBC in the core without decimal arithmetic are class R instructions. -/
@[simp] theorem adcWith_binary (o : Operand) (cycles : Nat) (s : State) :
    adcWith false o cycles s = readExec o cycles State.addA s := rfl

@[simp] theorem sbcWith_binary (o : Operand) (cycles : Nat) (s : State) :
    sbcWith false o cycles s = readExec o cycles State.subA s := rfl

/-- The penalty of class R is at most one cycle. -/
theorem Operand.penalty_le (s : State) (o : Operand) : o.penalty s ≤ 1 := by
  cases o with
  | imm v => simp [Operand.penalty]
  | mem m => simp only [Operand.penalty, bitNat]; split <;> omega

/-- A class R instruction keeps what its effect keeps: memory and the run state. -/
theorem readExec_keeps {o : Operand} {cycles : Nat} {f : Byte → State → State} {s t : State}
    (hf : ∀ v u, (f v u).mem = u.mem ∧ (f v u).run = u.run) (h : readExec o cycles f s = .next t) :
    t.mem = s.mem ∧ t.run = s.run ∧ t.pending = cycles + o.penalty s - 1 := by
  rw [readExec_next] at h
  subst h
  simp [hf]

/-- An implied instruction keeps what its effect keeps. -/
theorem impliedExec_keeps {cycles : Nat} {f : State → State} {s t : State}
    (hf : ∀ u, (f u).mem = u.mem ∧ (f u).run = u.run) (h : impliedExec cycles f s = .next t) :
    t.mem = s.mem ∧ t.run = s.run ∧ t.pending = cycles - 1 := by
  rw [impliedExec_next] at h
  subst h
  simp [hf]

end Sys2Proof.Machine
end

