-- ==== Sys2Proof/Laws/Dispatch.lean ====
section
/-! SUPPORT. What `exec` runs for each constructor, as an instance of its shape; and what holds of memory after any
instruction. Provers rewrite with these instead of unfolding `exec`. -/

namespace Sys2Proof.Machine

/-! ### The shape of each instruction -/

theorem exec_ldaImm (v : Byte) (s : State) : exec (.ldaImm v) s = readExec (.imm v) 2 State.loadA s := rfl
theorem exec_ldaZp (z : Byte) (s : State) : exec (.ldaZp z) s = readExec (.mem (.zp z)) 3 State.loadA s := rfl
theorem exec_ldaZpX (z : Byte) (s : State) : exec (.ldaZpX z) s = readExec (.mem (.zpX z)) 4 State.loadA s := rfl
theorem exec_ldaAbs (w : Addr) (s : State) : exec (.ldaAbs w) s = readExec (.mem (.abs w)) 4 State.loadA s := rfl
theorem exec_ldaAbsX (w : Addr) (s : State) : exec (.ldaAbsX w) s = readExec (.mem (.absX w)) 4 State.loadA s := rfl
theorem exec_ldaAbsY (w : Addr) (s : State) : exec (.ldaAbsY w) s = readExec (.mem (.absY w)) 4 State.loadA s := rfl
theorem exec_ldaIndX (z : Byte) (s : State) : exec (.ldaIndX z) s = readExec (.mem (.indX z)) 6 State.loadA s := rfl
theorem exec_ldaIndY (z : Byte) (s : State) : exec (.ldaIndY z) s = readExec (.mem (.indY z)) 5 State.loadA s := rfl
theorem exec_ldxImm (v : Byte) (s : State) : exec (.ldxImm v) s = readExec (.imm v) 2 State.loadX s := rfl
theorem exec_ldxZp (z : Byte) (s : State) : exec (.ldxZp z) s = readExec (.mem (.zp z)) 3 State.loadX s := rfl
theorem exec_ldxZpY (z : Byte) (s : State) : exec (.ldxZpY z) s = readExec (.mem (.zpY z)) 4 State.loadX s := rfl
theorem exec_ldxAbs (w : Addr) (s : State) : exec (.ldxAbs w) s = readExec (.mem (.abs w)) 4 State.loadX s := rfl
theorem exec_ldxAbsY (w : Addr) (s : State) : exec (.ldxAbsY w) s = readExec (.mem (.absY w)) 4 State.loadX s := rfl
theorem exec_ldyImm (v : Byte) (s : State) : exec (.ldyImm v) s = readExec (.imm v) 2 State.loadY s := rfl
theorem exec_ldyZp (z : Byte) (s : State) : exec (.ldyZp z) s = readExec (.mem (.zp z)) 3 State.loadY s := rfl
theorem exec_ldyZpX (z : Byte) (s : State) : exec (.ldyZpX z) s = readExec (.mem (.zpX z)) 4 State.loadY s := rfl
theorem exec_ldyAbs (w : Addr) (s : State) : exec (.ldyAbs w) s = readExec (.mem (.abs w)) 4 State.loadY s := rfl
theorem exec_ldyAbsX (w : Addr) (s : State) : exec (.ldyAbsX w) s = readExec (.mem (.absX w)) 4 State.loadY s := rfl
theorem exec_staZp (z : Byte) (s : State) : exec (.staZp z) s = writeExec (.zp z) 3 s.a s := rfl
theorem exec_staZpX (z : Byte) (s : State) : exec (.staZpX z) s = writeExec (.zpX z) 4 s.a s := rfl
theorem exec_staAbs (w : Addr) (s : State) : exec (.staAbs w) s = writeExec (.abs w) 4 s.a s := rfl
theorem exec_staAbsX (w : Addr) (s : State) : exec (.staAbsX w) s = writeExec (.absX w) 5 s.a s := rfl
theorem exec_staAbsY (w : Addr) (s : State) : exec (.staAbsY w) s = writeExec (.absY w) 5 s.a s := rfl
theorem exec_staIndX (z : Byte) (s : State) : exec (.staIndX z) s = writeExec (.indX z) 6 s.a s := rfl
theorem exec_staIndY (z : Byte) (s : State) : exec (.staIndY z) s = writeExec (.indY z) 6 s.a s := rfl
theorem exec_stxZp (z : Byte) (s : State) : exec (.stxZp z) s = writeExec (.zp z) 3 s.x s := rfl
theorem exec_stxZpY (z : Byte) (s : State) : exec (.stxZpY z) s = writeExec (.zpY z) 4 s.x s := rfl
theorem exec_stxAbs (w : Addr) (s : State) : exec (.stxAbs w) s = writeExec (.abs w) 4 s.x s := rfl
theorem exec_styZp (z : Byte) (s : State) : exec (.styZp z) s = writeExec (.zp z) 3 s.y s := rfl
theorem exec_styZpX (z : Byte) (s : State) : exec (.styZpX z) s = writeExec (.zpX z) 4 s.y s := rfl
theorem exec_styAbs (w : Addr) (s : State) : exec (.styAbs w) s = writeExec (.abs w) 4 s.y s := rfl
theorem exec_tax (s : State) : exec .tax s = impliedExec 2 (fun t => t.loadX t.a) s := rfl
theorem exec_tay (s : State) : exec .tay s = impliedExec 2 (fun t => t.loadY t.a) s := rfl
theorem exec_txa (s : State) : exec .txa s = impliedExec 2 (fun t => t.loadA t.x) s := rfl
theorem exec_tya (s : State) : exec .tya s = impliedExec 2 (fun t => t.loadA t.y) s := rfl
theorem exec_tsx (s : State) : exec .tsx s = impliedExec 2 (fun t => t.loadX t.sp) s := rfl
theorem exec_txs (s : State) : exec .txs s = impliedExec 2 (fun t => t.setSp t.x) s := rfl
theorem exec_pha (s : State) : exec .pha s = impliedExec 3 (fun t => t.push t.a) s := rfl
theorem exec_php (s : State) : exec .php s = impliedExec 3 (fun t => t.push (t.p.pack t.p.b)) s := rfl
theorem exec_pla (s : State) : exec .pla s = impliedExec 4 State.pullA s := rfl
theorem exec_plp (s : State) : exec .plp s = impliedExec 4 State.pullP s := rfl
theorem exec_adcImm (v : Byte) (s : State) : exec (.adcImm v) s = readExec (.imm v) 2 State.addA s := rfl
theorem exec_adcZp (z : Byte) (s : State) : exec (.adcZp z) s = readExec (.mem (.zp z)) 3 State.addA s := rfl
theorem exec_adcZpX (z : Byte) (s : State) : exec (.adcZpX z) s = readExec (.mem (.zpX z)) 4 State.addA s := rfl
theorem exec_adcAbs (w : Addr) (s : State) : exec (.adcAbs w) s = readExec (.mem (.abs w)) 4 State.addA s := rfl
theorem exec_adcAbsX (w : Addr) (s : State) : exec (.adcAbsX w) s = readExec (.mem (.absX w)) 4 State.addA s := rfl
theorem exec_adcAbsY (w : Addr) (s : State) : exec (.adcAbsY w) s = readExec (.mem (.absY w)) 4 State.addA s := rfl
theorem exec_adcIndX (z : Byte) (s : State) : exec (.adcIndX z) s = readExec (.mem (.indX z)) 6 State.addA s := rfl
theorem exec_adcIndY (z : Byte) (s : State) : exec (.adcIndY z) s = readExec (.mem (.indY z)) 5 State.addA s := rfl
theorem exec_sbcImm (v : Byte) (s : State) : exec (.sbcImm v) s = readExec (.imm v) 2 State.subA s := rfl
theorem exec_sbcZp (z : Byte) (s : State) : exec (.sbcZp z) s = readExec (.mem (.zp z)) 3 State.subA s := rfl
theorem exec_sbcZpX (z : Byte) (s : State) : exec (.sbcZpX z) s = readExec (.mem (.zpX z)) 4 State.subA s := rfl
theorem exec_sbcAbs (w : Addr) (s : State) : exec (.sbcAbs w) s = readExec (.mem (.abs w)) 4 State.subA s := rfl
theorem exec_sbcAbsX (w : Addr) (s : State) : exec (.sbcAbsX w) s = readExec (.mem (.absX w)) 4 State.subA s := rfl
theorem exec_sbcAbsY (w : Addr) (s : State) : exec (.sbcAbsY w) s = readExec (.mem (.absY w)) 4 State.subA s := rfl
theorem exec_sbcIndX (z : Byte) (s : State) : exec (.sbcIndX z) s = readExec (.mem (.indX z)) 6 State.subA s := rfl
theorem exec_sbcIndY (z : Byte) (s : State) : exec (.sbcIndY z) s = readExec (.mem (.indY z)) 5 State.subA s := rfl
theorem exec_cmpImm (v : Byte) (s : State) : exec (.cmpImm v) s = readExec (.imm v) 2 State.compareA s := rfl
theorem exec_cmpZp (z : Byte) (s : State) : exec (.cmpZp z) s = readExec (.mem (.zp z)) 3 State.compareA s := rfl
theorem exec_cmpZpX (z : Byte) (s : State) : exec (.cmpZpX z) s = readExec (.mem (.zpX z)) 4 State.compareA s := rfl
theorem exec_cmpAbs (w : Addr) (s : State) : exec (.cmpAbs w) s = readExec (.mem (.abs w)) 4 State.compareA s := rfl
theorem exec_cmpAbsX (w : Addr) (s : State) :
    exec (.cmpAbsX w) s = readExec (.mem (.absX w)) 4 State.compareA s := rfl
theorem exec_cmpAbsY (w : Addr) (s : State) :
    exec (.cmpAbsY w) s = readExec (.mem (.absY w)) 4 State.compareA s := rfl
theorem exec_cmpIndX (z : Byte) (s : State) :
    exec (.cmpIndX z) s = readExec (.mem (.indX z)) 6 State.compareA s := rfl
theorem exec_cmpIndY (z : Byte) (s : State) :
    exec (.cmpIndY z) s = readExec (.mem (.indY z)) 5 State.compareA s := rfl
theorem exec_cpxImm (v : Byte) (s : State) : exec (.cpxImm v) s = readExec (.imm v) 2 State.compareX s := rfl
theorem exec_cpxZp (z : Byte) (s : State) : exec (.cpxZp z) s = readExec (.mem (.zp z)) 3 State.compareX s := rfl
theorem exec_cpxAbs (w : Addr) (s : State) : exec (.cpxAbs w) s = readExec (.mem (.abs w)) 4 State.compareX s := rfl
theorem exec_cpyImm (v : Byte) (s : State) : exec (.cpyImm v) s = readExec (.imm v) 2 State.compareY s := rfl
theorem exec_cpyZp (z : Byte) (s : State) : exec (.cpyZp z) s = readExec (.mem (.zp z)) 3 State.compareY s := rfl
theorem exec_cpyAbs (w : Addr) (s : State) : exec (.cpyAbs w) s = readExec (.mem (.abs w)) 4 State.compareY s := rfl
theorem exec_incZp (z : Byte) (s : State) : exec (.incZp z) s = modifyExec (.zp z) 5 Flags.inc s := rfl
theorem exec_incZpX (z : Byte) (s : State) : exec (.incZpX z) s = modifyExec (.zpX z) 6 Flags.inc s := rfl
theorem exec_incAbs (w : Addr) (s : State) : exec (.incAbs w) s = modifyExec (.abs w) 6 Flags.inc s := rfl
theorem exec_incAbsX (w : Addr) (s : State) : exec (.incAbsX w) s = modifyExec (.absX w) 7 Flags.inc s := rfl
theorem exec_decZp (z : Byte) (s : State) : exec (.decZp z) s = modifyExec (.zp z) 5 Flags.dec s := rfl
theorem exec_decZpX (z : Byte) (s : State) : exec (.decZpX z) s = modifyExec (.zpX z) 6 Flags.dec s := rfl
theorem exec_decAbs (w : Addr) (s : State) : exec (.decAbs w) s = modifyExec (.abs w) 6 Flags.dec s := rfl
theorem exec_decAbsX (w : Addr) (s : State) : exec (.decAbsX w) s = modifyExec (.absX w) 7 Flags.dec s := rfl
theorem exec_inx (s : State) : exec .inx s = impliedExec 2 (fun t => t.loadX (t.x + 1)) s := rfl
theorem exec_iny (s : State) : exec .iny s = impliedExec 2 (fun t => t.loadY (t.y + 1)) s := rfl
theorem exec_dex (s : State) : exec .dex s = impliedExec 2 (fun t => t.loadX (t.x - 1)) s := rfl
theorem exec_dey (s : State) : exec .dey s = impliedExec 2 (fun t => t.loadY (t.y - 1)) s := rfl
theorem exec_andImm (v : Byte) (s : State) : exec (.andImm v) s = readExec (.imm v) 2 State.andA s := rfl
theorem exec_andZp (z : Byte) (s : State) : exec (.andZp z) s = readExec (.mem (.zp z)) 3 State.andA s := rfl
theorem exec_andZpX (z : Byte) (s : State) : exec (.andZpX z) s = readExec (.mem (.zpX z)) 4 State.andA s := rfl
theorem exec_andAbs (w : Addr) (s : State) : exec (.andAbs w) s = readExec (.mem (.abs w)) 4 State.andA s := rfl
theorem exec_andAbsX (w : Addr) (s : State) : exec (.andAbsX w) s = readExec (.mem (.absX w)) 4 State.andA s := rfl
theorem exec_andAbsY (w : Addr) (s : State) : exec (.andAbsY w) s = readExec (.mem (.absY w)) 4 State.andA s := rfl
theorem exec_andIndX (z : Byte) (s : State) : exec (.andIndX z) s = readExec (.mem (.indX z)) 6 State.andA s := rfl
theorem exec_andIndY (z : Byte) (s : State) : exec (.andIndY z) s = readExec (.mem (.indY z)) 5 State.andA s := rfl
theorem exec_oraImm (v : Byte) (s : State) : exec (.oraImm v) s = readExec (.imm v) 2 State.orA s := rfl
theorem exec_oraZp (z : Byte) (s : State) : exec (.oraZp z) s = readExec (.mem (.zp z)) 3 State.orA s := rfl
theorem exec_oraZpX (z : Byte) (s : State) : exec (.oraZpX z) s = readExec (.mem (.zpX z)) 4 State.orA s := rfl
theorem exec_oraAbs (w : Addr) (s : State) : exec (.oraAbs w) s = readExec (.mem (.abs w)) 4 State.orA s := rfl
theorem exec_oraAbsX (w : Addr) (s : State) : exec (.oraAbsX w) s = readExec (.mem (.absX w)) 4 State.orA s := rfl
theorem exec_oraAbsY (w : Addr) (s : State) : exec (.oraAbsY w) s = readExec (.mem (.absY w)) 4 State.orA s := rfl
theorem exec_oraIndX (z : Byte) (s : State) : exec (.oraIndX z) s = readExec (.mem (.indX z)) 6 State.orA s := rfl
theorem exec_oraIndY (z : Byte) (s : State) : exec (.oraIndY z) s = readExec (.mem (.indY z)) 5 State.orA s := rfl
theorem exec_eorImm (v : Byte) (s : State) : exec (.eorImm v) s = readExec (.imm v) 2 State.eorA s := rfl
theorem exec_eorZp (z : Byte) (s : State) : exec (.eorZp z) s = readExec (.mem (.zp z)) 3 State.eorA s := rfl
theorem exec_eorZpX (z : Byte) (s : State) : exec (.eorZpX z) s = readExec (.mem (.zpX z)) 4 State.eorA s := rfl
theorem exec_eorAbs (w : Addr) (s : State) : exec (.eorAbs w) s = readExec (.mem (.abs w)) 4 State.eorA s := rfl
theorem exec_eorAbsX (w : Addr) (s : State) : exec (.eorAbsX w) s = readExec (.mem (.absX w)) 4 State.eorA s := rfl
theorem exec_eorAbsY (w : Addr) (s : State) : exec (.eorAbsY w) s = readExec (.mem (.absY w)) 4 State.eorA s := rfl
theorem exec_eorIndX (z : Byte) (s : State) : exec (.eorIndX z) s = readExec (.mem (.indX z)) 6 State.eorA s := rfl
theorem exec_eorIndY (z : Byte) (s : State) : exec (.eorIndY z) s = readExec (.mem (.indY z)) 5 State.eorA s := rfl
theorem exec_bitZp (z : Byte) (s : State) : exec (.bitZp z) s = readExec (.mem (.zp z)) 3 State.bitA s := rfl
theorem exec_bitAbs (w : Addr) (s : State) : exec (.bitAbs w) s = readExec (.mem (.abs w)) 4 State.bitA s := rfl
theorem exec_aslAcc (s : State) : exec .aslAcc s = accExec 2 Flags.asl s := rfl
theorem exec_aslZp (z : Byte) (s : State) : exec (.aslZp z) s = modifyExec (.zp z) 5 Flags.asl s := rfl
theorem exec_aslZpX (z : Byte) (s : State) : exec (.aslZpX z) s = modifyExec (.zpX z) 6 Flags.asl s := rfl
theorem exec_aslAbs (w : Addr) (s : State) : exec (.aslAbs w) s = modifyExec (.abs w) 6 Flags.asl s := rfl
theorem exec_aslAbsX (w : Addr) (s : State) : exec (.aslAbsX w) s = modifyExec (.absX w) 7 Flags.asl s := rfl
theorem exec_lsrAcc (s : State) : exec .lsrAcc s = accExec 2 Flags.lsr s := rfl
theorem exec_lsrZp (z : Byte) (s : State) : exec (.lsrZp z) s = modifyExec (.zp z) 5 Flags.lsr s := rfl
theorem exec_lsrZpX (z : Byte) (s : State) : exec (.lsrZpX z) s = modifyExec (.zpX z) 6 Flags.lsr s := rfl
theorem exec_lsrAbs (w : Addr) (s : State) : exec (.lsrAbs w) s = modifyExec (.abs w) 6 Flags.lsr s := rfl
theorem exec_lsrAbsX (w : Addr) (s : State) : exec (.lsrAbsX w) s = modifyExec (.absX w) 7 Flags.lsr s := rfl
theorem exec_rolAcc (s : State) : exec .rolAcc s = accExec 2 Flags.rol s := rfl
theorem exec_rolZp (z : Byte) (s : State) : exec (.rolZp z) s = modifyExec (.zp z) 5 Flags.rol s := rfl
theorem exec_rolZpX (z : Byte) (s : State) : exec (.rolZpX z) s = modifyExec (.zpX z) 6 Flags.rol s := rfl
theorem exec_rolAbs (w : Addr) (s : State) : exec (.rolAbs w) s = modifyExec (.abs w) 6 Flags.rol s := rfl
theorem exec_rolAbsX (w : Addr) (s : State) : exec (.rolAbsX w) s = modifyExec (.absX w) 7 Flags.rol s := rfl
theorem exec_rorAcc (s : State) : exec .rorAcc s = accExec 2 Flags.ror s := rfl
theorem exec_rorZp (z : Byte) (s : State) : exec (.rorZp z) s = modifyExec (.zp z) 5 Flags.ror s := rfl
theorem exec_rorZpX (z : Byte) (s : State) : exec (.rorZpX z) s = modifyExec (.zpX z) 6 Flags.ror s := rfl
theorem exec_rorAbs (w : Addr) (s : State) : exec (.rorAbs w) s = modifyExec (.abs w) 6 Flags.ror s := rfl
theorem exec_rorAbsX (w : Addr) (s : State) : exec (.rorAbsX w) s = modifyExec (.absX w) 7 Flags.ror s := rfl
theorem exec_bcc (d : Byte) (s : State) : exec (.bcc d) s = branchExec 2 (!s.p.c) d s := rfl
theorem exec_bcs (d : Byte) (s : State) : exec (.bcs d) s = branchExec 2 s.p.c d s := rfl
theorem exec_beq (d : Byte) (s : State) : exec (.beq d) s = branchExec 2 s.p.z d s := rfl
theorem exec_bne (d : Byte) (s : State) : exec (.bne d) s = branchExec 2 (!s.p.z) d s := rfl
theorem exec_bmi (d : Byte) (s : State) : exec (.bmi d) s = branchExec 2 s.p.n d s := rfl
theorem exec_bpl (d : Byte) (s : State) : exec (.bpl d) s = branchExec 2 (!s.p.n) d s := rfl
theorem exec_bvc (d : Byte) (s : State) : exec (.bvc d) s = branchExec 2 (!s.p.v) d s := rfl
theorem exec_bvs (d : Byte) (s : State) : exec (.bvs d) s = branchExec 2 s.p.v d s := rfl
theorem exec_jmpAbs (w : Addr) (s : State) : exec (.jmpAbs w) s = .next ((s.setPc w).stall 3) := rfl
theorem exec_jmpInd (ptr : Addr) (s : State) :
    exec (.jmpInd ptr) s = .next ((s.setPc (s.indirectTarget true ptr)).stall 5) := rfl
theorem exec_jsr (w : Addr) (s : State) : exec (.jsr w) s = .next (((s.advance 2).call w).stall 6) := rfl
theorem exec_rts (s : State) : exec .rts s = impliedExec 6 State.returnSub s := rfl
theorem exec_clc (s : State) : exec .clc s = impliedExec 2 (fun t => t.setP { t.p with c := false }) s := rfl
theorem exec_sec (s : State) : exec .sec s = impliedExec 2 (fun t => t.setP { t.p with c := true }) s := rfl
theorem exec_cli (s : State) : exec .cli s = impliedExec 2 (fun t => t.setP { t.p with i := false }) s := rfl
theorem exec_sei (s : State) : exec .sei s = impliedExec 2 (fun t => t.setP { t.p with i := true }) s := rfl
theorem exec_cld (s : State) : exec .cld s = impliedExec 2 (fun t => t.setP { t.p with d := false }) s := rfl
theorem exec_sed (s : State) : exec .sed s = impliedExec 2 (fun t => t.setP { t.p with d := true }) s := rfl
theorem exec_clv (s : State) : exec .clv s = impliedExec 2 (fun t => t.setP { t.p with v := false }) s := rfl
theorem exec_nop (s : State) : exec .nop s = impliedExec 2 (fun t => t) s := rfl
theorem exec_brk (s : State) : exec .brk s = .next (((s.advance 2).takeTrap (s.pc + 2)).stall 7) := rfl
theorem exec_rti (s : State) : exec .rti s = impliedExec 6 State.returnFromTrap s := rfl

/-! ### Memory after an instruction -/

section
variable {Q : Memory → Prop} {s t : State}

theorem readExec_mem_of {o : Operand} {c : Nat} {f : Byte → State → State} (he : readExec o c f s = .next t) (h : Q s.mem)
    (hf : ∀ v u, (f v u).mem = u.mem) : Q t.mem := by
  rw [readExec_next] at he
  subst he
  simpa [hf] using h

theorem accExec_mem_of {c : Nat} {f : Flags → Byte → Byte × Flags} (he : accExec c f s = .next t) (h : Q s.mem) :
    Q t.mem := by
  rw [accExec_next] at he
  subst he
  exact h

theorem impliedExec_mem_of {c : Nat} {f : State → State} (he : impliedExec c f s = .next t) (h : Q s.mem)
    (hf : ∀ u, Q u.mem → Q (f u).mem) : Q t.mem := by
  rw [impliedExec_next] at he
  subst he
  exact hf (s.advance 1) h

theorem branchExec_mem_of {c : Nat} {b : Bool} {d : Byte} (he : branchExec c b d s = .next t) (h : Q s.mem) : Q t.mem := by
  rcases (branchExec_next _ _ _ _ _).1 he with ⟨_, rfl⟩ | ⟨_, rfl⟩ <;> exact h

variable (hQ : ∀ m a v, Q m → Q (m.store (resolve a).toNat v))
include hQ

theorem writeExec_mem_of {m : MemMode} {c : Nat} {v : Byte} (he : writeExec m c v s = .next t) (h : Q s.mem) : Q t.mem := by
  rw [writeExec_next] at he
  subst he
  exact hQ _ _ _ h

theorem modifyExec_mem_of {m : MemMode} {c : Nat} {f : Flags → Byte → Byte × Flags} (he : modifyExec m c f s = .next t)
    (h : Q s.mem) : Q t.mem := by
  rw [modifyExec_next] at he
  subst he
  exact hQ _ _ _ h

theorem State.push_mem_of (u : State) (h : Q u.mem) (v : Byte) : Q (u.push v).mem := hQ _ _ _ h

theorem State.push16_mem_of (u : State) (h : Q u.mem) (w : Addr) : Q (u.push16 w).mem :=
  State.push_mem_of hQ _ (State.push_mem_of hQ _ h _) _

/-- The bytes a trap pushes are bus writes. -/
theorem State.takeTrap_mem_of (u : State) (h : Q u.mem) (w : Addr) : Q (u.takeTrap w).mem := by
  have h1 : Q ((u.push16 w).setP { (u.push16 w).p with b := true }).mem := State.push16_mem_of hQ u h w
  exact State.push_mem_of hQ _ h1 _

theorem execBrk_mem_of (he : execBrk s = .next t) (h : Q s.mem) : Q t.mem := by
  have e : ((s.advance 2).takeTrap (s.pc + 2)).stall 7 = t := Host.Outcome.next.inj he
  rw [← e, State.stall_mem]
  exact State.takeTrap_mem_of (Q := Q) hQ (s.advance 2) h (s.pc + 2)

/-- What every bus write keeps, every instruction keeps: memory changes through the bus alone. -/
theorem exec_mem_of {i : Instr} (he : exec i s = .next t) (h : Q s.mem) : Q t.mem := by
  cases i with
  | ldaImm v => exact readExec_mem_of ((exec_ldaImm v s).symm.trans he) h (fun _ _ => rfl)
  | ldaZp z => exact readExec_mem_of ((exec_ldaZp z s).symm.trans he) h (fun _ _ => rfl)
  | ldaZpX z => exact readExec_mem_of ((exec_ldaZpX z s).symm.trans he) h (fun _ _ => rfl)
  | ldaAbs w => exact readExec_mem_of ((exec_ldaAbs w s).symm.trans he) h (fun _ _ => rfl)
  | ldaAbsX w => exact readExec_mem_of ((exec_ldaAbsX w s).symm.trans he) h (fun _ _ => rfl)
  | ldaAbsY w => exact readExec_mem_of ((exec_ldaAbsY w s).symm.trans he) h (fun _ _ => rfl)
  | ldaIndX z => exact readExec_mem_of ((exec_ldaIndX z s).symm.trans he) h (fun _ _ => rfl)
  | ldaIndY z => exact readExec_mem_of ((exec_ldaIndY z s).symm.trans he) h (fun _ _ => rfl)
  | ldxImm v => exact readExec_mem_of ((exec_ldxImm v s).symm.trans he) h (fun _ _ => rfl)
  | ldxZp z => exact readExec_mem_of ((exec_ldxZp z s).symm.trans he) h (fun _ _ => rfl)
  | ldxZpY z => exact readExec_mem_of ((exec_ldxZpY z s).symm.trans he) h (fun _ _ => rfl)
  | ldxAbs w => exact readExec_mem_of ((exec_ldxAbs w s).symm.trans he) h (fun _ _ => rfl)
  | ldxAbsY w => exact readExec_mem_of ((exec_ldxAbsY w s).symm.trans he) h (fun _ _ => rfl)
  | ldyImm v => exact readExec_mem_of ((exec_ldyImm v s).symm.trans he) h (fun _ _ => rfl)
  | ldyZp z => exact readExec_mem_of ((exec_ldyZp z s).symm.trans he) h (fun _ _ => rfl)
  | ldyZpX z => exact readExec_mem_of ((exec_ldyZpX z s).symm.trans he) h (fun _ _ => rfl)
  | ldyAbs w => exact readExec_mem_of ((exec_ldyAbs w s).symm.trans he) h (fun _ _ => rfl)
  | ldyAbsX w => exact readExec_mem_of ((exec_ldyAbsX w s).symm.trans he) h (fun _ _ => rfl)
  | staZp z => exact writeExec_mem_of hQ ((exec_staZp z s).symm.trans he) h
  | staZpX z => exact writeExec_mem_of hQ ((exec_staZpX z s).symm.trans he) h
  | staAbs w => exact writeExec_mem_of hQ ((exec_staAbs w s).symm.trans he) h
  | staAbsX w => exact writeExec_mem_of hQ ((exec_staAbsX w s).symm.trans he) h
  | staAbsY w => exact writeExec_mem_of hQ ((exec_staAbsY w s).symm.trans he) h
  | staIndX z => exact writeExec_mem_of hQ ((exec_staIndX z s).symm.trans he) h
  | staIndY z => exact writeExec_mem_of hQ ((exec_staIndY z s).symm.trans he) h
  | stxZp z => exact writeExec_mem_of hQ ((exec_stxZp z s).symm.trans he) h
  | stxZpY z => exact writeExec_mem_of hQ ((exec_stxZpY z s).symm.trans he) h
  | stxAbs w => exact writeExec_mem_of hQ ((exec_stxAbs w s).symm.trans he) h
  | styZp z => exact writeExec_mem_of hQ ((exec_styZp z s).symm.trans he) h
  | styZpX z => exact writeExec_mem_of hQ ((exec_styZpX z s).symm.trans he) h
  | styAbs w => exact writeExec_mem_of hQ ((exec_styAbs w s).symm.trans he) h
  | tax => exact impliedExec_mem_of ((exec_tax s).symm.trans he) h (fun _ h => h)
  | tay => exact impliedExec_mem_of ((exec_tay s).symm.trans he) h (fun _ h => h)
  | txa => exact impliedExec_mem_of ((exec_txa s).symm.trans he) h (fun _ h => h)
  | tya => exact impliedExec_mem_of ((exec_tya s).symm.trans he) h (fun _ h => h)
  | tsx => exact impliedExec_mem_of ((exec_tsx s).symm.trans he) h (fun _ h => h)
  | txs => exact impliedExec_mem_of ((exec_txs s).symm.trans he) h (fun _ h => h)
  | pha => exact impliedExec_mem_of ((exec_pha s).symm.trans he) h (fun _ h => hQ _ _ _ h)
  | php => exact impliedExec_mem_of ((exec_php s).symm.trans he) h (fun _ h => hQ _ _ _ h)
  | pla => exact impliedExec_mem_of ((exec_pla s).symm.trans he) h (fun _ h => h)
  | plp => exact impliedExec_mem_of ((exec_plp s).symm.trans he) h (fun _ h => h)
  | adcImm v => exact readExec_mem_of ((exec_adcImm v s).symm.trans he) h (fun _ _ => rfl)
  | adcZp z => exact readExec_mem_of ((exec_adcZp z s).symm.trans he) h (fun _ _ => rfl)
  | adcZpX z => exact readExec_mem_of ((exec_adcZpX z s).symm.trans he) h (fun _ _ => rfl)
  | adcAbs w => exact readExec_mem_of ((exec_adcAbs w s).symm.trans he) h (fun _ _ => rfl)
  | adcAbsX w => exact readExec_mem_of ((exec_adcAbsX w s).symm.trans he) h (fun _ _ => rfl)
  | adcAbsY w => exact readExec_mem_of ((exec_adcAbsY w s).symm.trans he) h (fun _ _ => rfl)
  | adcIndX z => exact readExec_mem_of ((exec_adcIndX z s).symm.trans he) h (fun _ _ => rfl)
  | adcIndY z => exact readExec_mem_of ((exec_adcIndY z s).symm.trans he) h (fun _ _ => rfl)
  | sbcImm v => exact readExec_mem_of ((exec_sbcImm v s).symm.trans he) h (fun _ _ => rfl)
  | sbcZp z => exact readExec_mem_of ((exec_sbcZp z s).symm.trans he) h (fun _ _ => rfl)
  | sbcZpX z => exact readExec_mem_of ((exec_sbcZpX z s).symm.trans he) h (fun _ _ => rfl)
  | sbcAbs w => exact readExec_mem_of ((exec_sbcAbs w s).symm.trans he) h (fun _ _ => rfl)
  | sbcAbsX w => exact readExec_mem_of ((exec_sbcAbsX w s).symm.trans he) h (fun _ _ => rfl)
  | sbcAbsY w => exact readExec_mem_of ((exec_sbcAbsY w s).symm.trans he) h (fun _ _ => rfl)
  | sbcIndX z => exact readExec_mem_of ((exec_sbcIndX z s).symm.trans he) h (fun _ _ => rfl)
  | sbcIndY z => exact readExec_mem_of ((exec_sbcIndY z s).symm.trans he) h (fun _ _ => rfl)
  | cmpImm v => exact readExec_mem_of ((exec_cmpImm v s).symm.trans he) h (fun _ _ => rfl)
  | cmpZp z => exact readExec_mem_of ((exec_cmpZp z s).symm.trans he) h (fun _ _ => rfl)
  | cmpZpX z => exact readExec_mem_of ((exec_cmpZpX z s).symm.trans he) h (fun _ _ => rfl)
  | cmpAbs w => exact readExec_mem_of ((exec_cmpAbs w s).symm.trans he) h (fun _ _ => rfl)
  | cmpAbsX w => exact readExec_mem_of ((exec_cmpAbsX w s).symm.trans he) h (fun _ _ => rfl)
  | cmpAbsY w => exact readExec_mem_of ((exec_cmpAbsY w s).symm.trans he) h (fun _ _ => rfl)
  | cmpIndX z => exact readExec_mem_of ((exec_cmpIndX z s).symm.trans he) h (fun _ _ => rfl)
  | cmpIndY z => exact readExec_mem_of ((exec_cmpIndY z s).symm.trans he) h (fun _ _ => rfl)
  | cpxImm v => exact readExec_mem_of ((exec_cpxImm v s).symm.trans he) h (fun _ _ => rfl)
  | cpxZp z => exact readExec_mem_of ((exec_cpxZp z s).symm.trans he) h (fun _ _ => rfl)
  | cpxAbs w => exact readExec_mem_of ((exec_cpxAbs w s).symm.trans he) h (fun _ _ => rfl)
  | cpyImm v => exact readExec_mem_of ((exec_cpyImm v s).symm.trans he) h (fun _ _ => rfl)
  | cpyZp z => exact readExec_mem_of ((exec_cpyZp z s).symm.trans he) h (fun _ _ => rfl)
  | cpyAbs w => exact readExec_mem_of ((exec_cpyAbs w s).symm.trans he) h (fun _ _ => rfl)
  | incZp z => exact modifyExec_mem_of hQ ((exec_incZp z s).symm.trans he) h
  | incZpX z => exact modifyExec_mem_of hQ ((exec_incZpX z s).symm.trans he) h
  | incAbs w => exact modifyExec_mem_of hQ ((exec_incAbs w s).symm.trans he) h
  | incAbsX w => exact modifyExec_mem_of hQ ((exec_incAbsX w s).symm.trans he) h
  | decZp z => exact modifyExec_mem_of hQ ((exec_decZp z s).symm.trans he) h
  | decZpX z => exact modifyExec_mem_of hQ ((exec_decZpX z s).symm.trans he) h
  | decAbs w => exact modifyExec_mem_of hQ ((exec_decAbs w s).symm.trans he) h
  | decAbsX w => exact modifyExec_mem_of hQ ((exec_decAbsX w s).symm.trans he) h
  | inx => exact impliedExec_mem_of ((exec_inx s).symm.trans he) h (fun _ h => h)
  | iny => exact impliedExec_mem_of ((exec_iny s).symm.trans he) h (fun _ h => h)
  | dex => exact impliedExec_mem_of ((exec_dex s).symm.trans he) h (fun _ h => h)
  | dey => exact impliedExec_mem_of ((exec_dey s).symm.trans he) h (fun _ h => h)
  | andImm v => exact readExec_mem_of ((exec_andImm v s).symm.trans he) h (fun _ _ => rfl)
  | andZp z => exact readExec_mem_of ((exec_andZp z s).symm.trans he) h (fun _ _ => rfl)
  | andZpX z => exact readExec_mem_of ((exec_andZpX z s).symm.trans he) h (fun _ _ => rfl)
  | andAbs w => exact readExec_mem_of ((exec_andAbs w s).symm.trans he) h (fun _ _ => rfl)
  | andAbsX w => exact readExec_mem_of ((exec_andAbsX w s).symm.trans he) h (fun _ _ => rfl)
  | andAbsY w => exact readExec_mem_of ((exec_andAbsY w s).symm.trans he) h (fun _ _ => rfl)
  | andIndX z => exact readExec_mem_of ((exec_andIndX z s).symm.trans he) h (fun _ _ => rfl)
  | andIndY z => exact readExec_mem_of ((exec_andIndY z s).symm.trans he) h (fun _ _ => rfl)
  | oraImm v => exact readExec_mem_of ((exec_oraImm v s).symm.trans he) h (fun _ _ => rfl)
  | oraZp z => exact readExec_mem_of ((exec_oraZp z s).symm.trans he) h (fun _ _ => rfl)
  | oraZpX z => exact readExec_mem_of ((exec_oraZpX z s).symm.trans he) h (fun _ _ => rfl)
  | oraAbs w => exact readExec_mem_of ((exec_oraAbs w s).symm.trans he) h (fun _ _ => rfl)
  | oraAbsX w => exact readExec_mem_of ((exec_oraAbsX w s).symm.trans he) h (fun _ _ => rfl)
  | oraAbsY w => exact readExec_mem_of ((exec_oraAbsY w s).symm.trans he) h (fun _ _ => rfl)
  | oraIndX z => exact readExec_mem_of ((exec_oraIndX z s).symm.trans he) h (fun _ _ => rfl)
  | oraIndY z => exact readExec_mem_of ((exec_oraIndY z s).symm.trans he) h (fun _ _ => rfl)
  | eorImm v => exact readExec_mem_of ((exec_eorImm v s).symm.trans he) h (fun _ _ => rfl)
  | eorZp z => exact readExec_mem_of ((exec_eorZp z s).symm.trans he) h (fun _ _ => rfl)
  | eorZpX z => exact readExec_mem_of ((exec_eorZpX z s).symm.trans he) h (fun _ _ => rfl)
  | eorAbs w => exact readExec_mem_of ((exec_eorAbs w s).symm.trans he) h (fun _ _ => rfl)
  | eorAbsX w => exact readExec_mem_of ((exec_eorAbsX w s).symm.trans he) h (fun _ _ => rfl)
  | eorAbsY w => exact readExec_mem_of ((exec_eorAbsY w s).symm.trans he) h (fun _ _ => rfl)
  | eorIndX z => exact readExec_mem_of ((exec_eorIndX z s).symm.trans he) h (fun _ _ => rfl)
  | eorIndY z => exact readExec_mem_of ((exec_eorIndY z s).symm.trans he) h (fun _ _ => rfl)
  | bitZp z => exact readExec_mem_of ((exec_bitZp z s).symm.trans he) h (fun _ _ => rfl)
  | bitAbs w => exact readExec_mem_of ((exec_bitAbs w s).symm.trans he) h (fun _ _ => rfl)
  | aslAcc => exact accExec_mem_of ((exec_aslAcc s).symm.trans he) h
  | aslZp z => exact modifyExec_mem_of hQ ((exec_aslZp z s).symm.trans he) h
  | aslZpX z => exact modifyExec_mem_of hQ ((exec_aslZpX z s).symm.trans he) h
  | aslAbs w => exact modifyExec_mem_of hQ ((exec_aslAbs w s).symm.trans he) h
  | aslAbsX w => exact modifyExec_mem_of hQ ((exec_aslAbsX w s).symm.trans he) h
  | lsrAcc => exact accExec_mem_of ((exec_lsrAcc s).symm.trans he) h
  | lsrZp z => exact modifyExec_mem_of hQ ((exec_lsrZp z s).symm.trans he) h
  | lsrZpX z => exact modifyExec_mem_of hQ ((exec_lsrZpX z s).symm.trans he) h
  | lsrAbs w => exact modifyExec_mem_of hQ ((exec_lsrAbs w s).symm.trans he) h
  | lsrAbsX w => exact modifyExec_mem_of hQ ((exec_lsrAbsX w s).symm.trans he) h
  | rolAcc => exact accExec_mem_of ((exec_rolAcc s).symm.trans he) h
  | rolZp z => exact modifyExec_mem_of hQ ((exec_rolZp z s).symm.trans he) h
  | rolZpX z => exact modifyExec_mem_of hQ ((exec_rolZpX z s).symm.trans he) h
  | rolAbs w => exact modifyExec_mem_of hQ ((exec_rolAbs w s).symm.trans he) h
  | rolAbsX w => exact modifyExec_mem_of hQ ((exec_rolAbsX w s).symm.trans he) h
  | rorAcc => exact accExec_mem_of ((exec_rorAcc s).symm.trans he) h
  | rorZp z => exact modifyExec_mem_of hQ ((exec_rorZp z s).symm.trans he) h
  | rorZpX z => exact modifyExec_mem_of hQ ((exec_rorZpX z s).symm.trans he) h
  | rorAbs w => exact modifyExec_mem_of hQ ((exec_rorAbs w s).symm.trans he) h
  | rorAbsX w => exact modifyExec_mem_of hQ ((exec_rorAbsX w s).symm.trans he) h
  | bcc d => exact branchExec_mem_of ((exec_bcc d s).symm.trans he) h
  | bcs d => exact branchExec_mem_of ((exec_bcs d s).symm.trans he) h
  | beq d => exact branchExec_mem_of ((exec_beq d s).symm.trans he) h
  | bne d => exact branchExec_mem_of ((exec_bne d s).symm.trans he) h
  | bmi d => exact branchExec_mem_of ((exec_bmi d s).symm.trans he) h
  | bpl d => exact branchExec_mem_of ((exec_bpl d s).symm.trans he) h
  | bvc d => exact branchExec_mem_of ((exec_bvc d s).symm.trans he) h
  | bvs d => exact branchExec_mem_of ((exec_bvs d s).symm.trans he) h
  | jmpAbs w => rw [← Host.Outcome.next.inj ((exec_jmpAbs w s).symm.trans he)]; exact h
  | jmpInd ptr => rw [← Host.Outcome.next.inj ((exec_jmpInd ptr s).symm.trans he)]; exact h
  | jsr w => rw [← Host.Outcome.next.inj ((exec_jsr w s).symm.trans he), State.stall_mem]; exact State.push16_mem_of hQ _ h _
  | rts => exact impliedExec_mem_of ((exec_rts s).symm.trans he) h (fun u h => (State.returnSub_mem u).symm ▸ h)
  | clc => exact impliedExec_mem_of ((exec_clc s).symm.trans he) h (fun _ h => h)
  | sec => exact impliedExec_mem_of ((exec_sec s).symm.trans he) h (fun _ h => h)
  | cli => exact impliedExec_mem_of ((exec_cli s).symm.trans he) h (fun _ h => h)
  | sei => exact impliedExec_mem_of ((exec_sei s).symm.trans he) h (fun _ h => h)
  | cld => exact impliedExec_mem_of ((exec_cld s).symm.trans he) h (fun _ h => h)
  | sed => exact impliedExec_mem_of ((exec_sed s).symm.trans he) h (fun _ h => h)
  | clv => exact impliedExec_mem_of ((exec_clv s).symm.trans he) h (fun _ h => h)
  | nop => exact impliedExec_mem_of ((exec_nop s).symm.trans he) h (fun _ h => h)
  | brk => exact execBrk_mem_of hQ he h
  | rti => exact impliedExec_mem_of ((exec_rti s).symm.trans he) h (fun u h => (State.returnFromTrap_mem u).symm ▸ h)

end

end Sys2Proof.Machine
end

