-- ==== Sys2Proof/Laws/Variants.lean ====
section
/-! SUPPORT. The instructions of a core built with any parameters, beside `exec`. -/

namespace Sys2Proof.Machine

theorem execWith_default (i : Instr) (s : State) : execWith Config.params i s = exec i s := by
  cases i <;> rfl

theorem execWith_default_fun : execWith Config.params = exec :=
  funext fun i => funext fun s => execWith_default i s

theorem adcWith_cases (d : Bool) (o : Operand) (c : Nat) (s : State) :
    adcWith d o c s = readExec o c State.addA s ∨ (d = true ∧ s.p.d = true ∧ adcWith d o c s = .refused .decimalArithmetic) := by
  cases hd : d <;> cases hf : s.p.d <;> simp [adcWith, hf]

theorem sbcWith_cases (d : Bool) (o : Operand) (c : Nat) (s : State) :
    sbcWith d o c s = readExec o c State.subA s ∨ (d = true ∧ s.p.d = true ∧ sbcWith d o c s = .refused .decimalArithmetic) := by
  cases hd : d <;> cases hf : s.p.d <;> simp [sbcWith, hf]

/-- Under any parameters an instruction is `exec`'s, or it is refused for D = 1 under DECIMAL_ARITH, or it is PHP or
JMP (abs) under the parameter it reads. -/
theorem execWith_cases (par : Params) (i : Instr) (s : State) :
    execWith par i s = exec i s ∨
      (par.decimalArith = true ∧ s.p.d = true ∧ execWith par i s = .refused .decimalArithmetic) ∨
      (i = .php ∧ execWith par i s = phpWith par.pushBMode s) ∨
      ∃ ptr, i = .jmpInd ptr ∧ execWith par i s = jmpIndWith par.jmpIndPageWrap ptr s := by
  cases i with
  | ldaImm v => exact .inl rfl
  | ldaZp z => exact .inl rfl
  | ldaZpX z => exact .inl rfl
  | ldaAbs w => exact .inl rfl
  | ldaAbsX w => exact .inl rfl
  | ldaAbsY w => exact .inl rfl
  | ldaIndX z => exact .inl rfl
  | ldaIndY z => exact .inl rfl
  | ldxImm v => exact .inl rfl
  | ldxZp z => exact .inl rfl
  | ldxZpY z => exact .inl rfl
  | ldxAbs w => exact .inl rfl
  | ldxAbsY w => exact .inl rfl
  | ldyImm v => exact .inl rfl
  | ldyZp z => exact .inl rfl
  | ldyZpX z => exact .inl rfl
  | ldyAbs w => exact .inl rfl
  | ldyAbsX w => exact .inl rfl
  | staZp z => exact .inl rfl
  | staZpX z => exact .inl rfl
  | staAbs w => exact .inl rfl
  | staAbsX w => exact .inl rfl
  | staAbsY w => exact .inl rfl
  | staIndX z => exact .inl rfl
  | staIndY z => exact .inl rfl
  | stxZp z => exact .inl rfl
  | stxZpY z => exact .inl rfl
  | stxAbs w => exact .inl rfl
  | styZp z => exact .inl rfl
  | styZpX z => exact .inl rfl
  | styAbs w => exact .inl rfl
  | tax => exact .inl rfl
  | tay => exact .inl rfl
  | txa => exact .inl rfl
  | tya => exact .inl rfl
  | tsx => exact .inl rfl
  | txs => exact .inl rfl
  | pha => exact .inl rfl
  | php => exact .inr (.inr (.inl ⟨rfl, rfl⟩))
  | pla => exact .inl rfl
  | plp => exact .inl rfl
  | adcImm v => exact (adcWith_cases _ _ _ s).imp id .inl
  | adcZp z => exact (adcWith_cases _ _ _ s).imp id .inl
  | adcZpX z => exact (adcWith_cases _ _ _ s).imp id .inl
  | adcAbs w => exact (adcWith_cases _ _ _ s).imp id .inl
  | adcAbsX w => exact (adcWith_cases _ _ _ s).imp id .inl
  | adcAbsY w => exact (adcWith_cases _ _ _ s).imp id .inl
  | adcIndX z => exact (adcWith_cases _ _ _ s).imp id .inl
  | adcIndY z => exact (adcWith_cases _ _ _ s).imp id .inl
  | sbcImm v => exact (sbcWith_cases _ _ _ s).imp id .inl
  | sbcZp z => exact (sbcWith_cases _ _ _ s).imp id .inl
  | sbcZpX z => exact (sbcWith_cases _ _ _ s).imp id .inl
  | sbcAbs w => exact (sbcWith_cases _ _ _ s).imp id .inl
  | sbcAbsX w => exact (sbcWith_cases _ _ _ s).imp id .inl
  | sbcAbsY w => exact (sbcWith_cases _ _ _ s).imp id .inl
  | sbcIndX z => exact (sbcWith_cases _ _ _ s).imp id .inl
  | sbcIndY z => exact (sbcWith_cases _ _ _ s).imp id .inl
  | cmpImm v => exact .inl rfl
  | cmpZp z => exact .inl rfl
  | cmpZpX z => exact .inl rfl
  | cmpAbs w => exact .inl rfl
  | cmpAbsX w => exact .inl rfl
  | cmpAbsY w => exact .inl rfl
  | cmpIndX z => exact .inl rfl
  | cmpIndY z => exact .inl rfl
  | cpxImm v => exact .inl rfl
  | cpxZp z => exact .inl rfl
  | cpxAbs w => exact .inl rfl
  | cpyImm v => exact .inl rfl
  | cpyZp z => exact .inl rfl
  | cpyAbs w => exact .inl rfl
  | incZp z => exact .inl rfl
  | incZpX z => exact .inl rfl
  | incAbs w => exact .inl rfl
  | incAbsX w => exact .inl rfl
  | decZp z => exact .inl rfl
  | decZpX z => exact .inl rfl
  | decAbs w => exact .inl rfl
  | decAbsX w => exact .inl rfl
  | inx => exact .inl rfl
  | iny => exact .inl rfl
  | dex => exact .inl rfl
  | dey => exact .inl rfl
  | andImm v => exact .inl rfl
  | andZp z => exact .inl rfl
  | andZpX z => exact .inl rfl
  | andAbs w => exact .inl rfl
  | andAbsX w => exact .inl rfl
  | andAbsY w => exact .inl rfl
  | andIndX z => exact .inl rfl
  | andIndY z => exact .inl rfl
  | oraImm v => exact .inl rfl
  | oraZp z => exact .inl rfl
  | oraZpX z => exact .inl rfl
  | oraAbs w => exact .inl rfl
  | oraAbsX w => exact .inl rfl
  | oraAbsY w => exact .inl rfl
  | oraIndX z => exact .inl rfl
  | oraIndY z => exact .inl rfl
  | eorImm v => exact .inl rfl
  | eorZp z => exact .inl rfl
  | eorZpX z => exact .inl rfl
  | eorAbs w => exact .inl rfl
  | eorAbsX w => exact .inl rfl
  | eorAbsY w => exact .inl rfl
  | eorIndX z => exact .inl rfl
  | eorIndY z => exact .inl rfl
  | bitZp z => exact .inl rfl
  | bitAbs w => exact .inl rfl
  | aslAcc => exact .inl rfl
  | aslZp z => exact .inl rfl
  | aslZpX z => exact .inl rfl
  | aslAbs w => exact .inl rfl
  | aslAbsX w => exact .inl rfl
  | lsrAcc => exact .inl rfl
  | lsrZp z => exact .inl rfl
  | lsrZpX z => exact .inl rfl
  | lsrAbs w => exact .inl rfl
  | lsrAbsX w => exact .inl rfl
  | rolAcc => exact .inl rfl
  | rolZp z => exact .inl rfl
  | rolZpX z => exact .inl rfl
  | rolAbs w => exact .inl rfl
  | rolAbsX w => exact .inl rfl
  | rorAcc => exact .inl rfl
  | rorZp z => exact .inl rfl
  | rorZpX z => exact .inl rfl
  | rorAbs w => exact .inl rfl
  | rorAbsX w => exact .inl rfl
  | bcc d => exact .inl rfl
  | bcs d => exact .inl rfl
  | beq d => exact .inl rfl
  | bne d => exact .inl rfl
  | bmi d => exact .inl rfl
  | bpl d => exact .inl rfl
  | bvc d => exact .inl rfl
  | bvs d => exact .inl rfl
  | jmpAbs w => exact .inl rfl
  | jmpInd ptr => exact .inr (.inr (.inr ⟨ptr, rfl, rfl⟩))
  | jsr w => exact .inl rfl
  | rts => exact .inl rfl
  | clc => exact .inl rfl
  | sec => exact .inl rfl
  | cli => exact .inl rfl
  | sei => exact .inl rfl
  | cld => exact .inl rfl
  | sed => exact .inl rfl
  | clv => exact .inl rfl
  | nop => exact .inl rfl
  | brk => exact .inl rfl
  | rti => exact .inl rfl

/-- A next state under any parameters is the one `exec` gives, but for PHP and JMP (abs). -/
theorem execWith_next {par : Params} {i : Instr} {s t : State} (h : execWith par i s = .next t) :
    exec i s = .next t ∨ (i = .php ∧ phpWith par.pushBMode s = .next t) ∨
      ∃ ptr, i = .jmpInd ptr ∧ jmpIndWith par.jmpIndPageWrap ptr s = .next t := by
  rcases execWith_cases par i s with e | ⟨_, _, e⟩ | ⟨hi, e⟩ | ⟨ptr, hi, e⟩ <;> rw [e] at h
  · exact .inl h
  · cases h
  · exact .inr (.inl ⟨hi, h⟩)
  · exact .inr (.inr ⟨ptr, hi, h⟩)

end Sys2Proof.Machine
end

