-- ==== Sys2Proof/Laws/HostOps.lean ====
section
/-! SUPPORT. The core at the default parameters, the reset state as the spec's operations give it, and what every
host operation keeps of memory. -/

namespace Sys2Proof.Machine

/-- The step of the core with the default parameters is `stepCall`. -/
theorem stepIn_default (s : State) : stepIn Config.params s = stepCall s := by
  unfold stepIn stepCall
  rw [execWith_default_fun]

/-- The reset state is power-on with the draw of log entries 2 and 3, then `reset()` (R330, R331). The draw's SP and
PC do not matter: reset writes both. -/
theorem reset_is_powerOn_then_reset (sp : Byte) (pc : Addr) :
    State.reset = hostReset Config.params
      (powerOn { a := 0, x := 0, y := 0, sp := sp, pc := pc, p := State.reset.p, mem := [] }) := by
  have h : concat Config.unlistedByte Config.unlistedByte = 0 := by decide
  simp only [hostReset, State.resetOp, State.read16, State.read, powerOn, Memory.cell, h]
  rfl

theorem State.placeBank_mem_wf {s : State} (h : s.mem.wf) (k : Addr) (bs : List Byte) : (s.placeBank k bs).mem.wf := by
  induction bs generalizing s k with
  | nil => exact h
  | cons v rest ih => exact ih (State.write_mem_wf (State.write_mem_wf h _ _) _ _) (k + 1)

/-- What `step()` does, under any parameters: the same fault again, the unknown opcode, a Stall step, an instruction,
or a stop of the instruction that changes nothing. -/
theorem stepIn_cases (par : Params) (s : State) :
    (∃ f, s.run = .halted f ∧ stepIn par s = (.stopped (.fault (.unimplementedOpcode f)), s)) ∨
      (s.run = .running ∧ s.pending ≠ 0 ∧ stepIn par s = (.stalled, s.setPending (s.pending - 1))) ∨
      (s.run = .running ∧ s.pending = 0 ∧
        ((∃ f, fetch par s = .error f ∧ stepIn par s = (.stopped (.fault (.unimplementedOpcode f)), s.halt f)) ∨
          (∃ i t, fetch par s = .ok i ∧ execWith par i s = .next t ∧
            stepIn par s = (.executed s.pc i.opcode (t.pending + 1), t)) ∨
          ∃ i why, fetch par s = .ok i ∧ (∀ t, execWith par i s ≠ .next t) ∧ stepIn par s = (.stopped why, s))) := by
  unfold stepIn stepCallWith
  cases hr : s.run with
  | halted f => exact .inl ⟨f, rfl, rfl⟩
  | running =>
    refine .inr ?_
    by_cases hp : s.pending = 0
    · refine .inr ⟨rfl, hp, ?_⟩
      simp only [hp, if_true, fetchStep]
      cases hf : fetch par s with
      | error f => exact .inl ⟨f, rfl, rfl⟩
      | ok i =>
        refine .inr ?_
        cases he : execWith par i s with
        | next t => exact .inl ⟨i, t, rfl, he, by simp only [he]⟩
        | fault f => exact .inr ⟨i, .fault f, rfl, by simp [he], by simp only [he]⟩
        | refused r => exact .inr ⟨i, .refusal r, rfl, by simp [he], by simp only [he]⟩
    · exact .inl ⟨rfl, hp, by simp only [hp, if_false]⟩

/-! ### `run_for`, one step at a time -/

theorem runFor_succ_of_stopped {par : Params} {s t : State} {why : Stop} (h : stepIn par s = (.stopped why, t)) (n : Nat) :
    runFor par (n + 1) s = { steps := 1, stop := some why, state := t } := by
  simp only [runFor, h]

theorem runFor_succ_of_next {par : Params} {s : State} (h : ∀ why, (stepIn par s).1 ≠ .stopped why) (n : Nat) :
    runFor par (n + 1) s =
      { runFor par n (stepIn par s).2 with steps := (runFor par n (stepIn par s).2).steps + 1 } := by
  rw [runFor]
  rcases hs : stepIn par s with ⟨_ | _ | why, t⟩
  · rfl
  · rfl
  · exact absurd (by rw [hs]) (h why)

/-! ### Memory changes through the bus alone -/

section
variable {Q : Memory → Prop} (hQ : ∀ m a v, Q m → Q (m.store (resolve a).toNat v))
include hQ

theorem execWith_mem_of {par : Params} {i : Instr} {s t : State} (he : execWith par i s = .next t) (h : Q s.mem) :
    Q t.mem := by
  rcases execWith_next he with he | ⟨_, he⟩ | ⟨ptr, _, he⟩
  · exact exec_mem_of hQ he h
  · exact impliedExec_mem_of he h (fun u h => State.push_mem_of hQ u h _)
  · rw [← Host.Outcome.next.inj he]
    exact h

theorem stepIn_mem_of (par : Params) {s : State} (h : Q s.mem) : Q (stepIn par s).2.mem := by
  rcases stepIn_cases par s with ⟨f, _, e⟩ | ⟨_, _, e⟩ | ⟨_, _, ⟨f, _, e⟩ | ⟨i, t, _, he, e⟩ | ⟨i, why, _, _, e⟩⟩ <;> rw [e]
  · exact h
  · exact h
  · exact h
  · exact execWith_mem_of hQ he h
  · exact h

theorem State.writeBytes_mem_of {s : State} (h : Q s.mem) (a : Addr) (bs : List Byte) : Q (s.writeBytes a bs).mem := by
  induction bs generalizing s a with
  | nil => exact h
  | cons v rest ih => exact ih (s := s.write a v) (hQ _ _ _ h) (a + 1)

theorem State.placeBank_mem_of {s : State} (h : Q s.mem) (k : Addr) (bs : List Byte) : Q (s.placeBank k bs).mem := by
  induction bs generalizing s k with
  | nil => exact h
  | cons v rest ih =>
    exact ih (s := (s.write (lowerWindow + k) v).write (upperWindow + k) v) (hQ _ _ _ (hQ _ _ _ h)) (k + 1)

end

end Sys2Proof.Machine
end

