-- ==== Sys2Proof/Laws/PerInstr.lean ====
section
/-! SUPPORT. Facts about every instruction as syntax, one lemma per constructor. The family `FormatAgrees`: the decoder's table
has a row for the encoder's opcode byte, and that row's length is the encoder's. -/

namespace Sys2Proof.Laws.FormatAgrees

/-- The decoder's format for the instruction's opcode byte has the length the encoder writes. -/
def Statement (i : Instr) : Prop := (formatOf i.opcode).map Format.length = some i.length

theorem ldaImm (v : Byte) : Statement (.ldaImm v) := by rfl
theorem ldaZp (z : Byte) : Statement (.ldaZp z) := by rfl
theorem ldaZpX (z : Byte) : Statement (.ldaZpX z) := by rfl
theorem ldaAbs (w : Addr) : Statement (.ldaAbs w) := by rfl
theorem ldaAbsX (w : Addr) : Statement (.ldaAbsX w) := by rfl
theorem ldaAbsY (w : Addr) : Statement (.ldaAbsY w) := by rfl
theorem ldaIndX (z : Byte) : Statement (.ldaIndX z) := by rfl
theorem ldaIndY (z : Byte) : Statement (.ldaIndY z) := by rfl
theorem ldxImm (v : Byte) : Statement (.ldxImm v) := by rfl
theorem ldxZp (z : Byte) : Statement (.ldxZp z) := by rfl
theorem ldxZpY (z : Byte) : Statement (.ldxZpY z) := by rfl
theorem ldxAbs (w : Addr) : Statement (.ldxAbs w) := by rfl
theorem ldxAbsY (w : Addr) : Statement (.ldxAbsY w) := by rfl
theorem ldyImm (v : Byte) : Statement (.ldyImm v) := by rfl
theorem ldyZp (z : Byte) : Statement (.ldyZp z) := by rfl
theorem ldyZpX (z : Byte) : Statement (.ldyZpX z) := by rfl
theorem ldyAbs (w : Addr) : Statement (.ldyAbs w) := by rfl
theorem ldyAbsX (w : Addr) : Statement (.ldyAbsX w) := by rfl
theorem staZp (z : Byte) : Statement (.staZp z) := by rfl
theorem staZpX (z : Byte) : Statement (.staZpX z) := by rfl
theorem staAbs (w : Addr) : Statement (.staAbs w) := by rfl
theorem staAbsX (w : Addr) : Statement (.staAbsX w) := by rfl
theorem staAbsY (w : Addr) : Statement (.staAbsY w) := by rfl
theorem staIndX (z : Byte) : Statement (.staIndX z) := by rfl
theorem staIndY (z : Byte) : Statement (.staIndY z) := by rfl
theorem stxZp (z : Byte) : Statement (.stxZp z) := by rfl
theorem stxZpY (z : Byte) : Statement (.stxZpY z) := by rfl
theorem stxAbs (w : Addr) : Statement (.stxAbs w) := by rfl
theorem styZp (z : Byte) : Statement (.styZp z) := by rfl
theorem styZpX (z : Byte) : Statement (.styZpX z) := by rfl
theorem styAbs (w : Addr) : Statement (.styAbs w) := by rfl
theorem tax : Statement (.tax) := by rfl
theorem tay : Statement (.tay) := by rfl
theorem txa : Statement (.txa) := by rfl
theorem tya : Statement (.tya) := by rfl
theorem tsx : Statement (.tsx) := by rfl
theorem txs : Statement (.txs) := by rfl
theorem pha : Statement (.pha) := by rfl
theorem php : Statement (.php) := by rfl
theorem pla : Statement (.pla) := by rfl
theorem plp : Statement (.plp) := by rfl
theorem adcImm (v : Byte) : Statement (.adcImm v) := by rfl
theorem adcZp (z : Byte) : Statement (.adcZp z) := by rfl
theorem adcZpX (z : Byte) : Statement (.adcZpX z) := by rfl
theorem adcAbs (w : Addr) : Statement (.adcAbs w) := by rfl
theorem adcAbsX (w : Addr) : Statement (.adcAbsX w) := by rfl
theorem adcAbsY (w : Addr) : Statement (.adcAbsY w) := by rfl
theorem adcIndX (z : Byte) : Statement (.adcIndX z) := by rfl
theorem adcIndY (z : Byte) : Statement (.adcIndY z) := by rfl
theorem sbcImm (v : Byte) : Statement (.sbcImm v) := by rfl
theorem sbcZp (z : Byte) : Statement (.sbcZp z) := by rfl
theorem sbcZpX (z : Byte) : Statement (.sbcZpX z) := by rfl
theorem sbcAbs (w : Addr) : Statement (.sbcAbs w) := by rfl
theorem sbcAbsX (w : Addr) : Statement (.sbcAbsX w) := by rfl
theorem sbcAbsY (w : Addr) : Statement (.sbcAbsY w) := by rfl
theorem sbcIndX (z : Byte) : Statement (.sbcIndX z) := by rfl
theorem sbcIndY (z : Byte) : Statement (.sbcIndY z) := by rfl
theorem cmpImm (v : Byte) : Statement (.cmpImm v) := by rfl
theorem cmpZp (z : Byte) : Statement (.cmpZp z) := by rfl
theorem cmpZpX (z : Byte) : Statement (.cmpZpX z) := by rfl
theorem cmpAbs (w : Addr) : Statement (.cmpAbs w) := by rfl
theorem cmpAbsX (w : Addr) : Statement (.cmpAbsX w) := by rfl
theorem cmpAbsY (w : Addr) : Statement (.cmpAbsY w) := by rfl
theorem cmpIndX (z : Byte) : Statement (.cmpIndX z) := by rfl
theorem cmpIndY (z : Byte) : Statement (.cmpIndY z) := by rfl
theorem cpxImm (v : Byte) : Statement (.cpxImm v) := by rfl
theorem cpxZp (z : Byte) : Statement (.cpxZp z) := by rfl
theorem cpxAbs (w : Addr) : Statement (.cpxAbs w) := by rfl
theorem cpyImm (v : Byte) : Statement (.cpyImm v) := by rfl
theorem cpyZp (z : Byte) : Statement (.cpyZp z) := by rfl
theorem cpyAbs (w : Addr) : Statement (.cpyAbs w) := by rfl
theorem incZp (z : Byte) : Statement (.incZp z) := by rfl
theorem incZpX (z : Byte) : Statement (.incZpX z) := by rfl
theorem incAbs (w : Addr) : Statement (.incAbs w) := by rfl
theorem incAbsX (w : Addr) : Statement (.incAbsX w) := by rfl
theorem decZp (z : Byte) : Statement (.decZp z) := by rfl
theorem decZpX (z : Byte) : Statement (.decZpX z) := by rfl
theorem decAbs (w : Addr) : Statement (.decAbs w) := by rfl
theorem decAbsX (w : Addr) : Statement (.decAbsX w) := by rfl
theorem inx : Statement (.inx) := by rfl
theorem iny : Statement (.iny) := by rfl
theorem dex : Statement (.dex) := by rfl
theorem dey : Statement (.dey) := by rfl
theorem andImm (v : Byte) : Statement (.andImm v) := by rfl
theorem andZp (z : Byte) : Statement (.andZp z) := by rfl
theorem andZpX (z : Byte) : Statement (.andZpX z) := by rfl
theorem andAbs (w : Addr) : Statement (.andAbs w) := by rfl
theorem andAbsX (w : Addr) : Statement (.andAbsX w) := by rfl
theorem andAbsY (w : Addr) : Statement (.andAbsY w) := by rfl
theorem andIndX (z : Byte) : Statement (.andIndX z) := by rfl
theorem andIndY (z : Byte) : Statement (.andIndY z) := by rfl
theorem oraImm (v : Byte) : Statement (.oraImm v) := by rfl
theorem oraZp (z : Byte) : Statement (.oraZp z) := by rfl
theorem oraZpX (z : Byte) : Statement (.oraZpX z) := by rfl
theorem oraAbs (w : Addr) : Statement (.oraAbs w) := by rfl
theorem oraAbsX (w : Addr) : Statement (.oraAbsX w) := by rfl
theorem oraAbsY (w : Addr) : Statement (.oraAbsY w) := by rfl
theorem oraIndX (z : Byte) : Statement (.oraIndX z) := by rfl
theorem oraIndY (z : Byte) : Statement (.oraIndY z) := by rfl
theorem eorImm (v : Byte) : Statement (.eorImm v) := by rfl
theorem eorZp (z : Byte) : Statement (.eorZp z) := by rfl
theorem eorZpX (z : Byte) : Statement (.eorZpX z) := by rfl
theorem eorAbs (w : Addr) : Statement (.eorAbs w) := by rfl
theorem eorAbsX (w : Addr) : Statement (.eorAbsX w) := by rfl
theorem eorAbsY (w : Addr) : Statement (.eorAbsY w) := by rfl
theorem eorIndX (z : Byte) : Statement (.eorIndX z) := by rfl
theorem eorIndY (z : Byte) : Statement (.eorIndY z) := by rfl
theorem bitZp (z : Byte) : Statement (.bitZp z) := by rfl
theorem bitAbs (w : Addr) : Statement (.bitAbs w) := by rfl
theorem aslAcc : Statement (.aslAcc) := by rfl
theorem aslZp (z : Byte) : Statement (.aslZp z) := by rfl
theorem aslZpX (z : Byte) : Statement (.aslZpX z) := by rfl
theorem aslAbs (w : Addr) : Statement (.aslAbs w) := by rfl
theorem aslAbsX (w : Addr) : Statement (.aslAbsX w) := by rfl
theorem lsrAcc : Statement (.lsrAcc) := by rfl
theorem lsrZp (z : Byte) : Statement (.lsrZp z) := by rfl
theorem lsrZpX (z : Byte) : Statement (.lsrZpX z) := by rfl
theorem lsrAbs (w : Addr) : Statement (.lsrAbs w) := by rfl
theorem lsrAbsX (w : Addr) : Statement (.lsrAbsX w) := by rfl
theorem rolAcc : Statement (.rolAcc) := by rfl
theorem rolZp (z : Byte) : Statement (.rolZp z) := by rfl
theorem rolZpX (z : Byte) : Statement (.rolZpX z) := by rfl
theorem rolAbs (w : Addr) : Statement (.rolAbs w) := by rfl
theorem rolAbsX (w : Addr) : Statement (.rolAbsX w) := by rfl
theorem rorAcc : Statement (.rorAcc) := by rfl
theorem rorZp (z : Byte) : Statement (.rorZp z) := by rfl
theorem rorZpX (z : Byte) : Statement (.rorZpX z) := by rfl
theorem rorAbs (w : Addr) : Statement (.rorAbs w) := by rfl
theorem rorAbsX (w : Addr) : Statement (.rorAbsX w) := by rfl
theorem bcc (d : Byte) : Statement (.bcc d) := by rfl
theorem bcs (d : Byte) : Statement (.bcs d) := by rfl
theorem beq (d : Byte) : Statement (.beq d) := by rfl
theorem bne (d : Byte) : Statement (.bne d) := by rfl
theorem bmi (d : Byte) : Statement (.bmi d) := by rfl
theorem bpl (d : Byte) : Statement (.bpl d) := by rfl
theorem bvc (d : Byte) : Statement (.bvc d) := by rfl
theorem bvs (d : Byte) : Statement (.bvs d) := by rfl
theorem jmpAbs (w : Addr) : Statement (.jmpAbs w) := by rfl
theorem jmpInd (ptr : Addr) : Statement (.jmpInd ptr) := by rfl
theorem jsr (w : Addr) : Statement (.jsr w) := by rfl
theorem rts : Statement (.rts) := by rfl
theorem clc : Statement (.clc) := by rfl
theorem sec : Statement (.sec) := by rfl
theorem cli : Statement (.cli) := by rfl
theorem sei : Statement (.sei) := by rfl
theorem cld : Statement (.cld) := by rfl
theorem sed : Statement (.sed) := by rfl
theorem clv : Statement (.clv) := by rfl
theorem nop : Statement (.nop) := by rfl
theorem brk : Statement (.brk) := by rfl
theorem rti : Statement (.rti) := by rfl

end Sys2Proof.Laws.FormatAgrees
end

