-- ==== Sys2Proof/Tests/Slice0.lean ====
section
/-! SUPPORT. The model's own tests. Expected results come from `95_test_vectors.md` (the id or section is in each
comment) and, for decoding, from the opcodes of `opcode_table.json` and the formats of `30_encoding.md` R81. After
them, a witness for the hypotheses of each statement that has any. -/

namespace Sys2Proof.Tests

open Sys2Proof.Machine Sys2Proof.Stmt

/-! ### Helpers -/

/-- The start state of `95_test_vectors.md`: the code at `at_`, PC there, SP 0xFF, everything else zero. -/
def startAt (at_ : Addr) (code : List Byte) : State := (State.reset.setPc at_).writeBytes at_ code

def start (code : List Byte) : State := startAt 0x0600 code

/-- Cells set through the bus. -/
def poke (cells : List (Addr × Byte)) (s : State) : State := cells.foldl (fun u c => u.write c.1 c.2) s

/-- The state after one step, if the step answers one. -/
def next (s : State) : Option State :=
  match step s with
  | .next t => some t
  | _ => none

/-- Flags written as the bits N V B D I Z C, as the vectors write them. -/
def nvbdizc (k : Nat) : Flags where
  n := k.testBit 6
  v := k.testBit 5
  b := k.testBit 4
  d := k.testBit 3
  i := k.testBit 2
  z := k.testBit 1
  c := k.testBit 0

/-- The IMPLEMENTED_SET that the source's prototype has (`40_dispatch.md` R113). -/
def narrow : Params := { Config.params with implemented := fun op => op == 0xA2 || op == 0x86 }

/-! ### Well-formedness: an opcode outside IMPLEMENTED_SET is refused (`40_dispatch.md` R113) -/

theorem test_wellFormed_refuses_outside_set : (Instr.ldaImm 0x01).wellFormed narrow = false := by decide
theorem test_wellFormed_accepts_inside_set : (Instr.ldxImm 0x05).wellFormed narrow = true := by decide
theorem test_wellFormed_default_set : (Instr.ldaImm 0x01).wellFormed Config.params = true := by decide

/-! ### Decoding: every row of the opcode table, with byte1 = 0x34 and byte2 = 0x12 -/

theorem test_decode_row_0 :
    [(16, 0x3400), (16, 0x3401), (16, 0x3405), (16, 0x3406), (8, 0x08), (16, 0x3409), (8, 0x0A),
       (24, 0x12340D), (24, 0x12340E)].map (fun x => decodeTableWord x.1 x.2) =
      [.brk, .oraIndX 0x34, .oraZp 0x34, .aslZp 0x34, .php, .oraImm 0x34, .aslAcc, .oraAbs 0x1234,
       .aslAbs 0x1234].map
        some := by decide

theorem test_decode_row_1 :
    [(16, 0x3410), (16, 0x3411), (16, 0x3415), (16, 0x3416), (8, 0x18), (24, 0x123419), (24, 0x12341D),
       (24, 0x12341E)].map (fun x => decodeTableWord x.1 x.2) =
      [.bpl 0x34, .oraIndY 0x34, .oraZpX 0x34, .aslZpX 0x34, .clc, .oraAbsY 0x1234, .oraAbsX 0x1234,
       .aslAbsX 0x1234].map
        some := by decide

theorem test_decode_row_2 :
    [(24, 0x123420), (16, 0x3421), (16, 0x3424), (16, 0x3425), (16, 0x3426), (8, 0x28), (16, 0x3429),
       (8, 0x2A), (24, 0x12342C), (24, 0x12342D), (24, 0x12342E)].map (fun x => decodeTableWord x.1 x.2) =
      [.jsr 0x1234, .andIndX 0x34, .bitZp 0x34, .andZp 0x34, .rolZp 0x34, .plp, .andImm 0x34, .rolAcc,
       .bitAbs 0x1234, .andAbs 0x1234, .rolAbs 0x1234].map
        some := by decide

theorem test_decode_row_3 :
    [(16, 0x3430), (16, 0x3431), (16, 0x3435), (16, 0x3436), (8, 0x38), (24, 0x123439), (24, 0x12343D),
       (24, 0x12343E)].map (fun x => decodeTableWord x.1 x.2) =
      [.bmi 0x34, .andIndY 0x34, .andZpX 0x34, .rolZpX 0x34, .sec, .andAbsY 0x1234, .andAbsX 0x1234,
       .rolAbsX 0x1234].map
        some := by decide

theorem test_decode_row_4 :
    [(8, 0x40), (16, 0x3441), (16, 0x3445), (16, 0x3446), (8, 0x48), (16, 0x3449), (8, 0x4A),
       (24, 0x12344C), (24, 0x12344D), (24, 0x12344E)].map (fun x => decodeTableWord x.1 x.2) =
      [.rti, .eorIndX 0x34, .eorZp 0x34, .lsrZp 0x34, .pha, .eorImm 0x34, .lsrAcc, .jmpAbs 0x1234,
       .eorAbs 0x1234, .lsrAbs 0x1234].map
        some := by decide

theorem test_decode_row_5 :
    [(16, 0x3450), (16, 0x3451), (16, 0x3455), (16, 0x3456), (8, 0x58), (24, 0x123459), (24, 0x12345D),
       (24, 0x12345E)].map (fun x => decodeTableWord x.1 x.2) =
      [.bvc 0x34, .eorIndY 0x34, .eorZpX 0x34, .lsrZpX 0x34, .cli, .eorAbsY 0x1234, .eorAbsX 0x1234,
       .lsrAbsX 0x1234].map
        some := by decide

theorem test_decode_row_6 :
    [(8, 0x60), (16, 0x3461), (16, 0x3465), (16, 0x3466), (8, 0x68), (16, 0x3469), (8, 0x6A),
       (24, 0x12346C), (24, 0x12346D), (24, 0x12346E)].map (fun x => decodeTableWord x.1 x.2) =
      [.rts, .adcIndX 0x34, .adcZp 0x34, .rorZp 0x34, .pla, .adcImm 0x34, .rorAcc, .jmpInd 0x1234,
       .adcAbs 0x1234, .rorAbs 0x1234].map
        some := by decide

theorem test_decode_row_7 :
    [(16, 0x3470), (16, 0x3471), (16, 0x3475), (16, 0x3476), (8, 0x78), (24, 0x123479), (24, 0x12347D),
       (24, 0x12347E)].map (fun x => decodeTableWord x.1 x.2) =
      [.bvs 0x34, .adcIndY 0x34, .adcZpX 0x34, .rorZpX 0x34, .sei, .adcAbsY 0x1234, .adcAbsX 0x1234,
       .rorAbsX 0x1234].map
        some := by decide

theorem test_decode_row_8 :
    [(16, 0x3481), (16, 0x3484), (16, 0x3485), (16, 0x3486), (8, 0x88), (8, 0x8A), (24, 0x12348C),
       (24, 0x12348D), (24, 0x12348E)].map (fun x => decodeTableWord x.1 x.2) =
      [.staIndX 0x34, .styZp 0x34, .staZp 0x34, .stxZp 0x34, .dey, .txa, .styAbs 0x1234, .staAbs 0x1234,
       .stxAbs 0x1234].map
        some := by decide

theorem test_decode_row_9 :
    [(16, 0x3490), (16, 0x3491), (16, 0x3494), (16, 0x3495), (16, 0x3496), (8, 0x98), (24, 0x123499),
       (8, 0x9A), (24, 0x12349D)].map (fun x => decodeTableWord x.1 x.2) =
      [.bcc 0x34, .staIndY 0x34, .styZpX 0x34, .staZpX 0x34, .stxZpY 0x34, .tya, .staAbsY 0x1234, .txs,
       .staAbsX 0x1234].map
        some := by decide

theorem test_decode_row_A :
    [(16, 0x34A0), (16, 0x34A1), (16, 0x34A2), (16, 0x34A4), (16, 0x34A5), (16, 0x34A6), (8, 0xA8),
       (16, 0x34A9), (8, 0xAA), (24, 0x1234AC), (24, 0x1234AD), (24, 0x1234AE)].map (fun x => decodeTableWord x.1 x.2) =
      [.ldyImm 0x34, .ldaIndX 0x34, .ldxImm 0x34, .ldyZp 0x34, .ldaZp 0x34, .ldxZp 0x34, .tay, .ldaImm 0x34,
       .tax, .ldyAbs 0x1234, .ldaAbs 0x1234, .ldxAbs 0x1234].map
        some := by decide

theorem test_decode_row_B :
    [(16, 0x34B0), (16, 0x34B1), (16, 0x34B4), (16, 0x34B5), (16, 0x34B6), (8, 0xB8), (24, 0x1234B9),
       (8, 0xBA), (24, 0x1234BC), (24, 0x1234BD), (24, 0x1234BE)].map (fun x => decodeTableWord x.1 x.2) =
      [.bcs 0x34, .ldaIndY 0x34, .ldyZpX 0x34, .ldaZpX 0x34, .ldxZpY 0x34, .clv, .ldaAbsY 0x1234, .tsx,
       .ldyAbsX 0x1234, .ldaAbsX 0x1234, .ldxAbsY 0x1234].map
        some := by decide

theorem test_decode_row_C :
    [(16, 0x34C0), (16, 0x34C1), (16, 0x34C4), (16, 0x34C5), (16, 0x34C6), (8, 0xC8), (16, 0x34C9),
       (8, 0xCA), (24, 0x1234CC), (24, 0x1234CD), (24, 0x1234CE)].map (fun x => decodeTableWord x.1 x.2) =
      [.cpyImm 0x34, .cmpIndX 0x34, .cpyZp 0x34, .cmpZp 0x34, .decZp 0x34, .iny, .cmpImm 0x34, .dex,
       .cpyAbs 0x1234, .cmpAbs 0x1234, .decAbs 0x1234].map
        some := by decide

theorem test_decode_row_D :
    [(16, 0x34D0), (16, 0x34D1), (16, 0x34D5), (16, 0x34D6), (8, 0xD8), (24, 0x1234D9), (24, 0x1234DD),
       (24, 0x1234DE)].map (fun x => decodeTableWord x.1 x.2) =
      [.bne 0x34, .cmpIndY 0x34, .cmpZpX 0x34, .decZpX 0x34, .cld, .cmpAbsY 0x1234, .cmpAbsX 0x1234,
       .decAbsX 0x1234].map
        some := by decide

theorem test_decode_row_E :
    [(16, 0x34E0), (16, 0x34E1), (16, 0x34E4), (16, 0x34E5), (16, 0x34E6), (8, 0xE8), (16, 0x34E9),
       (8, 0xEA), (24, 0x1234EC), (24, 0x1234ED), (24, 0x1234EE)].map (fun x => decodeTableWord x.1 x.2) =
      [.cpxImm 0x34, .sbcIndX 0x34, .cpxZp 0x34, .sbcZp 0x34, .incZp 0x34, .inx, .sbcImm 0x34, .nop,
       .cpxAbs 0x1234, .sbcAbs 0x1234, .incAbs 0x1234].map
        some := by decide

theorem test_decode_row_F :
    [(16, 0x34F0), (16, 0x34F1), (16, 0x34F5), (16, 0x34F6), (8, 0xF8), (24, 0x1234F9), (24, 0x1234FD),
       (24, 0x1234FE)].map (fun x => decodeTableWord x.1 x.2) =
      [.beq 0x34, .sbcIndY 0x34, .sbcZpX 0x34, .incZpX 0x34, .sed, .sbcAbsY 0x1234, .sbcAbsX 0x1234,
       .incAbsX 0x1234].map
        some := by decide

/-! ### Decoding: one word of each family written bit by bit, operand bytes then opcode (R81, R86) -/

/-- LDA zp: opcode 10100101, byte1 00010000. -/
theorem test_bits_load : decodeTableWord 16 0b0001000010100101 = some (.ldaZp 0x10) := by decide
/-- STA abs: opcode 10001101, byte1 (low) 00000000, byte2 (high) 00001000. -/
theorem test_bits_store : decodeTableWord 24 0b000010000000000010001101 = some (.staAbs 0x0800) := by decide
/-- TXS: opcode 10011010. -/
theorem test_bits_transfer : decodeTableWord 8 0b10011010 = some .txs := by decide
/-- PHP: opcode 00001000. -/
theorem test_bits_stack : decodeTableWord 8 0b00001000 = some .php := by decide
/-- SBC (zp),Y: opcode 11110001, byte1 00100000. -/
theorem test_bits_arith : decodeTableWord 16 0b0010000011110001 = some (.sbcIndY 0x20) := by decide
/-- BIT zp: opcode 00100100, byte1 00010000. -/
theorem test_bits_logic : decodeTableWord 16 0b0001000000100100 = some (.bitZp 0x10) := by decide
/-- ROR abs,X: opcode 01111110, byte1 00000000, byte2 00000010. -/
theorem test_bits_shift : decodeTableWord 24 0b000000100000000001111110 = some (.rorAbsX 0x0200) := by decide
/-- BNE: opcode 11010000, byte1 11111001. -/
theorem test_bits_branch : decodeTableWord 16 0b1111100111010000 = some (.bne 0xF9) := by decide
/-- JMP (abs): opcode 01101100, byte1 11111111, byte2 00000010. -/
theorem test_bits_jump : decodeTableWord 24 0b000000101111111101101100 = some (.jmpInd 0x02FF) := by decide
/-- SED: opcode 11111000. -/
theorem test_bits_flag : decodeTableWord 8 0b11111000 = some .sed := by decide
/-- BRK with padding byte 11101010: the padding is no operand. -/
theorem test_bits_brk : decodeTableWord 16 0b1110101000000000 = some .brk := by decide
/-- Values outside the map (`30_encoding.md` R87) decode to nothing. -/
theorem test_undocumented_words :
    [0x02, 0x1A, 0x80, 0x89, 0x9C, 0xCB, 0xEB, 0xFF].map (decodeTableWord 8) = List.replicate 8 none := by decide
/-- An instruction cut short by the end of the bytes is refused by name. -/
theorem test_truncated : decode [0xAD, 0x00] = .error (.missingOperand 0xAD) := by rfl


/-! ### Section 2.3: addressing modes -/

theorem test_ldaZpX_wraps_in_page_zero :
    (next (poke [(0x0010, 0x77)] { start [0xB5, 0xF0] with x := 0x20 })).map (fun t => (t.a, t.pending + 1)) =
      some (0x77, 4) := by decide
theorem test_ldaAbsX_crosses :
    (next (poke [(0x1310, 0xAA)] { start [0xBD, 0xF0, 0x12] with x := 0x20 })).map (fun t =>
      (t.a, t.p.n, t.pending + 1, t.pc)) =
      some (0xAA, true, 5, 0x0603) := by decide
theorem test_ldaAbsX_same_page :
    (next (poke [(0x1220, 0x55)] { start [0xBD, 0x00, 0x12] with x := 0x20 })).map (fun t => (t.a, t.pending + 1)) =
      some (0x55, 4) := by decide
theorem test_ldaAbsY_wraps_the_space :
    (next (poke [(0x0000, 0x99)] { start [0xB9, 0xFF, 0xFF] with y := 0x01 })).map (fun t =>
      (t.a, t.p.n, t.pending + 1)) =
      some (0x99, true, 5) := by decide
theorem test_ldaIndX :
    (next (poke [(0x0014, 0x00), (0x0015, 0x03), (0x0300, 0x42)] { start [0xA1, 0x10] with x := 0x04 })).map (fun t =>
      (t.a, t.pending + 1)) =
      some (0x42, 6) := by decide
theorem test_ldaIndX_pointer_wraps :
    (next (poke [(0x00FF, 0x34), (0x0000, 0x12), (0x1234, 0x5A)] (start [0xA1, 0xFF]))).map (fun t =>
      (t.a, t.pending + 1)) =
      some (0x5A, 6) := by decide
theorem test_ldaIndY_crosses :
    (next (poke [(0x0020, 0xF0), (0x0021, 0x12), (0x1310, 0x0B)] { start [0xB1, 0x20] with y := 0x20 })).map (fun t =>
      (t.a, t.pending + 1)) =
      some (0x0B, 6) := by decide
theorem test_ldaIndY_same_page :
    (next (poke [(0x0020, 0x00), (0x0021, 0x12), (0x1205, 0x80)] { start [0xB1, 0x20] with y := 0x05 })).map (fun t =>
      (t.a, t.p.n, t.pending + 1)) =
      some (0x80, true, 5) := by decide
theorem test_ldaAbs_reads_ram_mirror :
    (next (poke [(0x0000, 0x3C)] (start [0xAD, 0x00, 0x08]))).map (fun t => (t.a, t.pending + 1)) =
      some (0x3C, 4) := by decide
theorem test_ldaAbs_reads_port_mirror :
    (next (poke [(0x2001, 0xE1)] (start [0xAD, 0xF9, 0x3F]))).map (fun t => (t.a, t.p.n, t.pending + 1)) =
      some (0xE1, true, 4) := by decide
theorem test_ldxZpY :
    (next (poke [(0x0001, 0x81)] { start [0xB6, 0xFF] with y := 0x02 })).map (fun t => (t.x, t.p.n, t.pending + 1)) =
      some (0x81, true, 4) := by decide
theorem test_ldxAbsY_crosses :
    (next (poke [(0x1100, 0x01)] { start [0xBE, 0xFF, 0x10] with y := 0x01 })).map (fun t => (t.x, t.pending + 1)) =
      some (0x01, 5) := by decide
theorem test_ldyAbsX_crosses :
    (next (poke [(0x1100, 0x00)] { start [0xBC, 0xFF, 0x10] with x := 0x01 })).map (fun t =>
      (t.y, t.p.z, t.pending + 1)) =
      some (0x00, true, 5) := by decide
theorem test_jmpInd_page_wrap :
    (next (poke [(0x02FF, 0x34), (0x0200, 0x12), (0x0300, 0x56)] (start [0x6C, 0xFF, 0x02]))).map (fun t =>
      (t.pc, t.pending + 1)) =
      some (0x1234, 5) := by decide

/-! ### Section 2.4: loads and stores -/

theorem test_ldaImm_negative :
    (next (start [0xA9, 0x80])).map (fun t => (t.a, t.p, t.pending + 1)) =
      some (0x80, nvbdizc 0b1000000, 2) := by decide
theorem test_ldaImm_clears_n :
    (next ({ start [0xA9, 0x00] with p := nvbdizc 0b1000000 })).map (fun t => (t.a, t.p, t.pending + 1)) =
      some (0x00, nvbdizc 0b0000010, 2) := by decide
theorem test_ldyImm_zero :
    (next (start [0xA0, 0x00])).map (fun t => (t.y, t.p.z, t.pending + 1)) =
      some (0x00, true, 2) := by decide
theorem test_staAbsX_no_penalty :
    (next ({ start [0x9D, 0xF0, 0x12] with a := 0x42, x := 0x20, p := nvbdizc 0b1111111 })).map (fun t =>
      (t.read 0x1310, t.pending + 1, t.p)) =
      some (0x42, 5, nvbdizc 0b1111111) := by decide
theorem test_staIndY_no_penalty :
    (next (poke [(0x0020, 0xF0), (0x0021, 0x12)] { start [0x91, 0x20] with a := 0x42, y := 0x20 })).map (fun t =>
      (t.read 0x1310, t.pending + 1)) =
      some (0x42, 6) := by decide
theorem test_staAbs_writes_mirror :
    (next ({ start [0x8D, 0x00, 0x08] with a := 0x42 })).map (fun t => (t.read 0x0000, t.pending + 1)) =
      some (0x42, 4) := by decide
theorem test_styZpX_wraps :
    (next ({ start [0x94, 0xFF] with y := 0x07, x := 0x01 })).map (fun t => (t.read 0x0000, t.pending + 1)) =
      some (0x07, 4) := by decide
theorem test_stxZpY_wraps :
    (next ({ start [0x96, 0x80] with x := 0x33, y := 0x90 })).map (fun t => (t.read 0x0010, t.pending + 1)) =
      some (0x33, 4) := by decide

/-! ### Section 2.5: transfers -/

theorem test_tax :
    (next ({ start [0xAA] with x := 0x09 })).map (fun t => (t.x, t.p.z, t.pending + 1)) =
      some (0x00, true, 2) := by decide
theorem test_tay :
    (next ({ start [0xA8] with a := 0x80 })).map (fun t => (t.y, t.p.n, t.pending + 1)) =
      some (0x80, true, 2) := by decide
theorem test_txa :
    (next ({ start [0x8A] with x := 0x01, p := nvbdizc 0b0000010 })).map (fun t => (t.a, t.p.z, t.pending + 1)) =
      some (0x01, false, 2) := by decide
theorem test_tya :
    (next ({ start [0x98] with y := 0xFF })).map (fun t => (t.a, t.p.n, t.pending + 1)) =
      some (0xFF, true, 2) := by decide
theorem test_tsx :
    (next ({ start [0xBA] with sp := 0x00, x := 0x07 })).map (fun t => (t.x, t.p.z, t.pending + 1)) =
      some (0x00, true, 2) := by decide
theorem test_txs_keeps_flags :
    (next (start [0x9A])).map (fun t => (t.sp, t.p, t.pending + 1)) =
      some (0x00, nvbdizc 0b0000000, 2) := by decide

/-! ### Section 2.6: stack -/

theorem test_pha :
    (next ({ start [0x48] with a := 0x3C })).map (fun t => (t.read 0x01FF, t.sp, t.pending + 1)) =
      some (0x3C, 0xFE, 3) := by decide
theorem test_pha_wraps :
    (next ({ start [0x48] with a := 0x3C, sp := 0x00 })).map (fun t => (t.read 0x0100, t.sp)) =
      some (0x3C, 0xFF) := by decide
/-- Also S15. -/
theorem test_php_forces_bit5 :
    (next ({ start [0x08] with p := nvbdizc 0b1000001 })).map (fun t => (t.read 0x01FF, t.sp, t.pending + 1)) =
      some (0xA1, 0xFE, 3) := by decide
theorem test_php_stores_b :
    (next ({ start [0x08] with p := nvbdizc 0b0010000 })).map (fun t => t.read 0x01FF) =
      some 0x30 := by decide
theorem test_pla_zero :
    (next (poke [(0x01FF, 0x00)] { start [0x68] with a := 0x05, sp := 0xFE })).map (fun t =>
      (t.a, t.p.z, t.sp, t.pending + 1)) =
      some (0x00, true, 0xFF, 4) := by decide
theorem test_pla_wraps :
    (next (poke [(0x0100, 0x80)] (start [0x68]))).map (fun t => (t.a, t.p.n, t.sp)) =
      some (0x80, true, 0x00) := by decide
theorem test_plp_all :
    (next (poke [(0x01FF, 0xFF)] { start [0x28] with sp := 0xFE })).map (fun t => (t.p, t.sp, t.pending + 1)) =
      some (nvbdizc 0b1111111, 0xFF, 4) := by decide
/-- Also S15. -/
theorem test_plp_none :
    (next (poke [(0x01FF, 0x20)] { start [0x28] with sp := 0xFE, p := nvbdizc 0b1000001 })).map (fun t => t.p) =
      some (nvbdizc 0b0000000) := by decide
/-- S3: interleaved widths come back in reverse order, and SP with them. -/
theorem test_stack_interleaved :
    let s := ((({ State.reset with sp := 0x10 }).push 0xAA).push16 0x1234).push 0xBB
    let r1 := s.pop
    let r2 := r1.2.pop16
    let r3 := r2.2.pop
    (s.read 0x0110, s.read 0x010F, s.read 0x010E, s.read 0x010D, r1.1, r2.1, r3.1, r3.2.sp) =
      (0xAA, 0x12, 0x34, 0xBB, 0xBB, 0x1234, 0xAA, 0x10) := by decide
/-- S3: a word pushed across the wrap of SP. -/
theorem test_stack_word_wraps :
    let s := ({ State.reset with sp := 0x01 }).push16 0xBEEF
    (s.read 0x0101, s.read 0x0100, s.sp, s.pop16.1, s.pop16.2.sp) = (0xBE, 0xEF, 0xFF, 0xBEEF, 0x01) := by decide

/-! ### Section 2.7: arithmetic (S7, S8, S9 among them) -/

/-- S8. -/
theorem test_adc_s8_overflow :
    (next ({ start [0x69, 0x50] with a := 0x50, p := nvbdizc 0b0000000 })).map (fun t => (t.a, t.p, t.pending + 1)) =
      some (0xA0, nvbdizc 0b1100000, 2) := by decide
/-- S9. -/
theorem test_adc_s9_carry :
    (next ({ start [0x69, 0x01] with a := 0xFF, p := nvbdizc 0b0000000 })).map (fun t => (t.a, t.p, t.pending + 1)) =
      some (0x00, nvbdizc 0b0000011, 2) := by decide
theorem test_sbc_overflow :
    (next ({ start [0xE9, 0x01] with a := 0x80, p := nvbdizc 0b0000001 })).map (fun t => (t.a, t.p, t.pending + 1)) =
      some (0x7F, nvbdizc 0b0100001, 2) := by decide
theorem test_sbc_borrow :
    (next ({ start [0xE9, 0x00] with a := 0x00, p := nvbdizc 0b0000000 })).map (fun t => (t.a, t.p, t.pending + 1)) =
      some (0xFF, nvbdizc 0b1000000, 2) := by decide
theorem test_adc_ignores_decimal :
    (next (poke [(0x0010, 0x10)] { start [0x65, 0x10] with a := 0x50, p := nvbdizc 0b0001000 })).map (fun t =>
      (t.a, t.p)) =
      some (0x60, nvbdizc 0b0001000) := by decide
theorem test_adcZp_carry_in :
    (next (poke [(0x0010, 0x7F)] { start [0x65, 0x10] with a := 0x7F, p := nvbdizc 0b0000001 })).map (fun t =>
      (t.a, t.p, t.pending + 1)) =
      some (0xFF, nvbdizc 0b1100000, 3) := by decide
theorem test_sbcZp :
    (next (poke [(0x0010, 0x70)] { start [0xE5, 0x10] with a := 0xD0, p := nvbdizc 0b0000001 })).map (fun t =>
      (t.a, t.p, t.pending + 1)) =
      some (0x60, nvbdizc 0b0100001, 3) := by decide
theorem test_cmpImm_signed_trap :
    (next ({ start [0xC9, 0x00] with a := 0x80 })).map (fun t => (t.a, t.p, t.pending + 1)) =
      some (0x80, nvbdizc 0b1000001, 2) := by decide
theorem test_cmpImm_keeps_v :
    (next ({ start [0xC9, 0xFF] with a := 0x01, p := nvbdizc 0b0100000 })).map (fun t => (t.a, t.p)) =
      some (0x01, nvbdizc 0b0100000) := by decide
theorem test_cpxImm_equal :
    (next ({ start [0xE0, 0x05] with x := 0x05 })).map (fun t => (t.x, t.p)) =
      some (0x05, nvbdizc 0b0000011) := by decide
theorem test_cpyImm_less :
    (next (start [0xC0, 0x01])).map (fun t => t.p) =
      some (nvbdizc 0b1000000) := by decide
theorem test_incZp_keeps_c :
    (next (poke [(0x0010, 0xFF)] { start [0xE6, 0x10] with p := nvbdizc 0b0000001 })).map (fun t =>
      (t.read 0x0010, t.p, t.pending + 1)) =
      some (0x00, nvbdizc 0b0000011, 5) := by decide
theorem test_incAbsX_no_penalty :
    (next (poke [(0x1300, 0x7F)] { start [0xFE, 0xFF, 0x12] with x := 0x01 })).map (fun t =>
      (t.read 0x1300, t.p.n, t.pending + 1)) =
      some (0x80, true, 7) := by decide
theorem test_decAbs_wraps :
    (next (start [0xCE, 0x00, 0x02])).map (fun t => (t.read 0x0200, t.p.n, t.pending + 1)) =
      some (0xFF, true, 6) := by decide
theorem test_decZpX :
    (next (poke [(0x0010, 0x01)] { start [0xD6, 0xF0] with x := 0x20 })).map (fun t =>
      (t.read 0x0010, t.p.z, t.pending + 1)) =
      some (0x00, true, 6) := by decide
theorem test_inx :
    (next ({ start [0xE8] with x := 0xFF })).map (fun t => (t.x, t.p.z, t.pending + 1)) =
      some (0x00, true, 2) := by decide
theorem test_iny :
    (next ({ start [0xC8] with y := 0x7F })).map (fun t => (t.y, t.p.n, t.pending + 1)) =
      some (0x80, true, 2) := by decide
theorem test_dex :
    (next (start [0xCA])).map (fun t => (t.x, t.p.n, t.pending + 1)) =
      some (0xFF, true, 2) := by decide
theorem test_dey :
    (next ({ start [0x88] with y := 0x01 })).map (fun t => (t.y, t.p.z, t.pending + 1)) =
      some (0x00, true, 2) := by decide

/-! ### Section 2.8: logic, bit test and shifts -/

theorem test_andImm :
    (next ({ start [0x29, 0x3C] with a := 0xF0 })).map (fun t => (t.a, t.p, t.pending + 1)) =
      some (0x30, nvbdizc 0b0000000, 2) := by decide
theorem test_oraImm :
    (next ({ start [0x09, 0x80] with a := 0x01 })).map (fun t => (t.a, t.p)) =
      some (0x81, nvbdizc 0b1000000) := by decide
theorem test_eorImm :
    (next ({ start [0x49, 0xFF] with a := 0xFF })).map (fun t => (t.a, t.p)) =
      some (0x00, nvbdizc 0b0000010) := by decide
/-- S13: N and V come from the operand. -/
theorem test_bitZp_s13 :
    (next (poke [(0x0010, 0xC0)] { start [0x24, 0x10] with a := 0x3F })).map (fun t => (t.a, t.p, t.pending + 1)) =
      some (0x3F, nvbdizc 0b1100010, 3) := by decide
theorem test_bitZp_clears :
    (next ({ start [0x24, 0x10] with p := nvbdizc 0b1100000 })).map (fun t => t.p) =
      some (nvbdizc 0b0000010) := by decide
theorem test_bitAbs :
    (next (poke [(0x0300, 0x41)] { start [0x2C, 0x00, 0x03] with a := 0x01 })).map (fun t => (t.p, t.pending + 1)) =
      some (nvbdizc 0b0100000, 4) := by decide
theorem test_aslAcc_out :
    (next ({ start [0x0A] with a := 0x80 })).map (fun t => (t.a, t.p, t.pending + 1)) =
      some (0x00, nvbdizc 0b0000011, 2) := by decide
theorem test_aslAcc_n :
    (next ({ start [0x0A] with a := 0x41 })).map (fun t => (t.a, t.p)) =
      some (0x82, nvbdizc 0b1000000) := by decide
theorem test_lsrAcc :
    (next ({ start [0x4A] with a := 0x01 })).map (fun t => (t.a, t.p, t.pending + 1)) =
      some (0x00, nvbdizc 0b0000011, 2) := by decide
theorem test_lsrZp :
    (next (poke [(0x0020, 0x03)] (start [0x46, 0x20]))).map (fun t => (t.read 0x0020, t.p, t.pending + 1)) =
      some (0x01, nvbdizc 0b0000001, 5) := by decide
theorem test_rolAcc_in :
    (next ({ start [0x2A] with a := 0x40, p := nvbdizc 0b0000001 })).map (fun t => (t.a, t.p)) =
      some (0x81, nvbdizc 0b1000000) := by decide
theorem test_rolAcc_out :
    (next ({ start [0x2A] with a := 0x80 })).map (fun t => (t.a, t.p)) =
      some (0x00, nvbdizc 0b0000011) := by decide
theorem test_rorAcc_in :
    (next ({ start [0x6A] with p := nvbdizc 0b0000001 })).map (fun t => (t.a, t.p)) =
      some (0x80, nvbdizc 0b1000000) := by decide
theorem test_rorAcc_out :
    (next ({ start [0x6A] with a := 0x01 })).map (fun t => (t.a, t.p)) =
      some (0x00, nvbdizc 0b0000011) := by decide
theorem test_rorAbsX_no_penalty :
    (next (poke [(0x02FF, 0x02)] { start [0x7E, 0x00, 0x02] with x := 0xFF, p := nvbdizc 0b0000001 })).map (fun t =>
      (t.read 0x02FF, t.p, t.pending + 1)) =
      some (0x81, nvbdizc 0b1000000, 7) := by decide

/-! ### Section 2.9: control transfer -/

theorem test_bcc_taken :
    (next (start [0x90, 0x05])).map (fun t => (t.pc, t.pending + 1)) =
      some (0x0607, 3) := by decide
theorem test_bcc_wraps_the_space :
    (next (startAt 0xFFF0 [0x90, 0x7F])).map (fun t => (t.pc, t.pending + 1)) =
      some (0x0071, 4) := by decide
theorem test_bcs_not_taken :
    (next (start [0xB0, 0x05])).map (fun t => (t.pc, t.pending + 1)) =
      some (0x0602, 2) := by decide
theorem test_beq_crosses :
    (next ({ startAt 0x06F0 [0xF0, 0x20] with p := nvbdizc 0b0000010 })).map (fun t => (t.pc, t.pending + 1)) =
      some (0x0712, 4) := by decide
theorem test_bne_backwards :
    (next (startAt 0x0610 [0xD0, 0xF0])).map (fun t => (t.pc, t.pending + 1)) =
      some (0x0602, 3) := by decide
theorem test_bne_to_itself :
    (next (start [0xD0, 0xFE])).map (fun t => (t.pc, t.pending + 1)) =
      some (0x0600, 3) := by decide
theorem test_bmi_taken :
    (next ({ start [0x30, 0x02] with p := nvbdizc 0b1000000 })).map (fun t => (t.pc, t.pending + 1)) =
      some (0x0604, 3) := by decide
theorem test_bpl_crosses_from_next :
    (next (startAt 0x06FD [0x10, 0x01])).map (fun t => (t.pc, t.pending + 1)) =
      some (0x0700, 4) := by decide
theorem test_bpl_next_already_crossed :
    (next (startAt 0x06FE [0x10, 0x00])).map (fun t => (t.pc, t.pending + 1)) =
      some (0x0700, 3) := by decide
theorem test_bvc_zero_displacement :
    (next (start [0x50, 0x00])).map (fun t => (t.pc, t.pending + 1)) =
      some (0x0602, 3) := by decide
theorem test_bvs_taken :
    (next ({ startAt 0x0680 [0x70, 0x80] with p := nvbdizc 0b0100000 })).map (fun t => (t.pc, t.pending + 1)) =
      some (0x0602, 3) := by decide
theorem test_jmpAbs :
    (next (start [0x4C, 0x00, 0xC0])).map (fun t => (t.pc, t.pending + 1)) =
      some (0xC000, 3) := by decide
theorem test_jmpInd :
    (next (poke [(0x0300, 0x34), (0x0301, 0x12)] (start [0x6C, 0x00, 0x03]))).map (fun t => (t.pc, t.pending + 1)) =
      some (0x1234, 5) := by decide
/-- Also S14. -/
theorem test_jsr :
    (next (start [0x20, 0x00, 0x07])).map (fun t => (t.read 0x01FF, t.read 0x01FE, t.sp, t.pc, t.pending + 1)) =
      some (0x06, 0x02, 0xFD, 0x0700, 6) := by decide
theorem test_jsr_wraps :
    (next ({ start [0x20, 0x00, 0x07] with sp := 0x00 })).map (fun t => (t.read 0x0100, t.read 0x01FF, t.sp)) =
      some (0x06, 0x02, 0xFE) := by decide
/-- Also S14. -/
theorem test_rts :
    (next (poke [(0x01FE, 0x02), (0x01FF, 0x06)] { start [0x60] with sp := 0xFD })).map (fun t =>
      (t.pc, t.sp, t.pending + 1)) =
      some (0x0603, 0xFF, 6) := by decide
theorem test_rts_wraps :
    (next (poke [(0x01FE, 0xFF), (0x01FF, 0xFF)] { start [0x60] with sp := 0xFD })).map (fun t => t.pc) =
      some 0x0000 := by decide

/-! ### Section 2.10: flag instructions, NOP, BRK and RTI -/

theorem test_clc_from_clear :
    (next (start [0x18])).map (fun t => (t.p, t.pc, t.pending + 1)) =
      some (nvbdizc 0b0000000, 0x0601, 2) := by decide
theorem test_clc_from_set :
    (next ({ start [0x18] with p := nvbdizc 0b1111111 })).map (fun t => (t.p, t.pc, t.pending + 1)) =
      some (nvbdizc 0b1111110, 0x0601, 2) := by decide
theorem test_sec_from_clear :
    (next (start [0x38])).map (fun t => (t.p, t.pc, t.pending + 1)) =
      some (nvbdizc 0b0000001, 0x0601, 2) := by decide
theorem test_sec_from_set :
    (next ({ start [0x38] with p := nvbdizc 0b1111111 })).map (fun t => (t.p, t.pc, t.pending + 1)) =
      some (nvbdizc 0b1111111, 0x0601, 2) := by decide
theorem test_cli_from_clear :
    (next (start [0x58])).map (fun t => (t.p, t.pc, t.pending + 1)) =
      some (nvbdizc 0b0000000, 0x0601, 2) := by decide
theorem test_cli_from_set :
    (next ({ start [0x58] with p := nvbdizc 0b1111111 })).map (fun t => (t.p, t.pc, t.pending + 1)) =
      some (nvbdizc 0b1111011, 0x0601, 2) := by decide
theorem test_sei_from_clear :
    (next (start [0x78])).map (fun t => (t.p, t.pc, t.pending + 1)) =
      some (nvbdizc 0b0000100, 0x0601, 2) := by decide
theorem test_sei_from_set :
    (next ({ start [0x78] with p := nvbdizc 0b1111111 })).map (fun t => (t.p, t.pc, t.pending + 1)) =
      some (nvbdizc 0b1111111, 0x0601, 2) := by decide
theorem test_cld_from_clear :
    (next (start [0xD8])).map (fun t => (t.p, t.pc, t.pending + 1)) =
      some (nvbdizc 0b0000000, 0x0601, 2) := by decide
theorem test_cld_from_set :
    (next ({ start [0xD8] with p := nvbdizc 0b1111111 })).map (fun t => (t.p, t.pc, t.pending + 1)) =
      some (nvbdizc 0b1110111, 0x0601, 2) := by decide
theorem test_sed_from_clear :
    (next (start [0xF8])).map (fun t => (t.p, t.pc, t.pending + 1)) =
      some (nvbdizc 0b0001000, 0x0601, 2) := by decide
theorem test_sed_from_set :
    (next ({ start [0xF8] with p := nvbdizc 0b1111111 })).map (fun t => (t.p, t.pc, t.pending + 1)) =
      some (nvbdizc 0b1111111, 0x0601, 2) := by decide
theorem test_clv_from_clear :
    (next (start [0xB8])).map (fun t => (t.p, t.pc, t.pending + 1)) =
      some (nvbdizc 0b0000000, 0x0601, 2) := by decide
theorem test_clv_from_set :
    (next ({ start [0xB8] with p := nvbdizc 0b1111111 })).map (fun t => (t.p, t.pc, t.pending + 1)) =
      some (nvbdizc 0b1011111, 0x0601, 2) := by decide
theorem test_nop_from_clear :
    (next (start [0xEA])).map (fun t => (t.p, t.pc, t.pending + 1)) =
      some (nvbdizc 0b0000000, 0x0601, 2) := by decide
theorem test_nop_from_set :
    (next ({ start [0xEA] with p := nvbdizc 0b1111111 })).map (fun t => (t.p, t.pc, t.pending + 1)) =
      some (nvbdizc 0b1111111, 0x0601, 2) := by decide
theorem test_brk :
    (next (poke [(0xFFFE, 0x00), (0xFFFF, 0x80)] (start [0x00, 0xFF]))).map (fun t =>
      (t.read 0x01FF, t.read 0x01FE, t.read 0x01FD, t.sp, t.p, t.pc)) =
      some (0x06, 0x02, 0x30, 0xFC, nvbdizc 0b0010100, 0x8000) := by decide
theorem test_brk_keeps_d :
    (next (poke [(0xFFFE, 0x00), (0xFFFF, 0x80)] { start [0x00, 0xFF] with p := nvbdizc 0b1001001 })).map (fun t =>
      (t.read 0x01FD, t.p, t.pending + 1)) =
      some (0xB9, nvbdizc 0b1011101, 7) := by decide
theorem test_rti :
    (next (poke [(0x01FD, 0x30), (0x01FE, 0x02), (0x01FF, 0x06)] { start [0x40] with sp := 0xFC, p := nvbdizc 0b0000100 })).map (fun t =>
      (t.p, t.pc, t.sp, t.pending + 1)) =
      some (nvbdizc 0b0010000, 0x0602, 0xFF, 6) := by decide
theorem test_rti_adds_nothing :
    (next (poke [(0x01FD, 0xC3), (0x01FE, 0x34), (0x01FF, 0x12)] { start [0x40] with sp := 0xFC })).map (fun t =>
      (t.p, t.pc)) =
      some (nvbdizc 0b1100011, 0x1234) := by decide

/-! ### Section 2.1: the status register (S1, S2) -/

theorem test_pack :
    ((nvbdizc 0b0000000).pack true, (nvbdizc 0b1111111).pack false, (nvbdizc 0b1111111).pack true,
      (nvbdizc 0b1000001).pack false) = (0x30, 0xEF, 0xFF, 0xA1) := by decide
theorem test_unpack :
    (Flags.unpack 0x20, Flags.unpack 0xFF, Flags.unpack 0x10, Flags.unpack 0xA1) =
      (nvbdizc 0b0000000, nvbdizc 0b1111111, nvbdizc 0b0010000, nvbdizc 0b1000001) := by decide

/-! ### Section 2.2: the bus (S4, S5) -/

/-- The boundary values of each clause of R52. -/
theorem test_resolve :
    [0x07FF, 0x0800, 0x1FFF, 0x2000, 0x2008, 0x3FFF, 0x4000, 0xFFFF].map resolve =
      [0x07FF, 0x0000, 0x07FF, 0x2000, 0x2000, 0x2007, 0x4000, 0xFFFF] := by decide
theorem test_ram_mirrors :
    let s := State.reset.write 0x0000 0x5A
    [0x0000, 0x0800, 0x1000, 0x1800, 0x2000].map s.read = [0x5A, 0x5A, 0x5A, 0x5A, 0x00] := by decide
theorem test_port_mirrors :
    let s := State.reset.write 0x2009 0xC3
    [0x2001, 0x2009, 0x3FF9, 0x4000].map s.read = [0xC3, 0xC3, 0xC3, 0x00] := by decide
theorem test_read16_through_a_mirror : (poke [(0x07FF, 0x34), (0x0000, 0x12)] State.reset).read16 0x07FF = 0x1234 := by
  decide
theorem test_read16_wraps : (poke [(0xFFFF, 0x78), (0x0000, 0x56)] State.reset).read16 0xFFFF = 0x5678 := by decide
theorem test_read16_straddles : (poke [(0x07FF, 0xCD), (0x2000, 0xAB)] State.reset).read16 0x1FFF = 0xABCD := by decide
theorem test_windows_independent :
    let s := (State.reset.placeBank 0 [0x22, 0x33]).write 0x8000 0x11
    [0x8000, 0x8001, 0xC000, 0xC001].map s.read = [0x11, 0x33, 0x22, 0x33] := by decide
/-- A write of the byte an unlisted cell reads as leaves nothing listed. -/
theorem test_memory_canonical :
    (poke [(0x0300, 0x01), (0x0200, 0x02), (0x0300, 0x00)] State.reset).mem = [(0x0200, 0x02)] := by decide

/-! ### Section 2.2: cartridge images -/

/-- A header with the bytes 3, 4, 6, 7 and 12 chosen. -/
def header (b3 b4 b6 b7 b12 : Byte) : List Byte :=
  [0x4E, 0x45, 0x53, b3, b4, 0x00, b6, b7, 0x00, 0x00, 0x00, 0x00, b12, 0x00, 0x00, 0x00]

theorem test_load_truncated_header : imageProblem (List.replicate 15 0x00) = some .truncatedHeader := by decide
theorem test_load_bad_signature :
    imageProblem ([0x4E, 0x45, 0x5A] ++ List.replicate 13 0x00) = some .badSignature := by decide
theorem test_load_bad_format_tag : imageProblem (header 0x00 0x01 0 0 0) = some .badFormatTag := by decide
theorem test_load_reserved : imageProblem (header 0x1A 0x01 0 0 0x01) = some .reservedNonZero := by decide
theorem test_load_trainer : imageProblem (header 0x1A 0x01 0x04 0 0) = some .unsupportedTrainer := by decide
theorem test_load_mapper_low : imageProblem (header 0x1A 0x01 0x10 0 0) = some .unsupportedMapper := by decide
theorem test_load_mapper_high : imageProblem (header 0x1A 0x01 0 0x10 0) = some .unsupportedMapper := by decide
theorem test_load_two_banks : imageProblem (header 0x1A 0x02 0 0 0) = some .unsupportedBankCount := by decide
theorem test_load_no_bank : imageProblem (header 0x1A 0x00 0 0 0) = some .unsupportedBankCount := by decide
theorem test_load_truncated_data : imageProblem (header 0x1A 0x01 0 0 0) = some .truncatedProgramData := by decide
theorem test_load_first_check_wins : imageProblem (header 0x00 0x02 0 0 0) = some .badFormatTag := by decide
/-- A failed load changes nothing (R65). -/
theorem test_load_failed_changes_nothing :
    load Config.params (List.replicate 15 0x00) (start [0xEA]) =
      (some (.malformedCartridge .truncatedHeader), start [0xEA]) := by decide
/-- Bytes 5 and 8, and the mirroring, battery and four-screen bits of byte 6, are ignored (R66). -/
theorem test_load_ignored_bits (bank : List Byte) (h : bank.length = 16384) :
    imageProblem ([0x4E, 0x45, 0x53, 0x1A, 0x01, 0x01, 0x0B, 0x00, 0x01, 0, 0, 0, 0, 0, 0, 0] ++ bank) = none := by
  simp [imageProblem, imageByte, mapperOf, headerLength, bankLength, h]

/-! ### Section 2.11: dispatch, faults and host operations -/

theorem test_unknown_opcode :
    stepCall (start [0x02]) =
      (.stopped (.fault (.unimplementedOpcode { op := 0x02, addr := 0x0600 })),
        (start [0x02]).halt { op := 0x02, addr := 0x0600 }) := by decide
theorem test_unknown_opcode_outside_set :
    (stepIn narrow (start [0xA9, 0x01])).1 =
      .stopped (.fault (.unimplementedOpcode { op := 0xA9, addr := 0x0600 })) := by decide
theorem test_halted_repeats :
    let h := (start [0x02]).halt { op := 0x02, addr := 0x0600 }
    stepCall h = (.stopped (.fault (.unimplementedOpcode { op := 0x02, addr := 0x0600 })), h) ∧
      (inject Config.params [0xA9, 0x01] h).2 = h := by decide
theorem test_reset_after_fault :
    let h := poke [(0xFFFC, 0x00), (0xFFFD, 0x06)]
      (({ start [0x02] with a := 0x11, sp := 0x42, p := nvbdizc 0b1000001 }).halt { op := 0x02, addr := 0x0600 })
    let r := hostReset Config.params h
    (r.run, r.pc, r.sp, r.pending, r.a, r.p) = (.running, 0x0600, 0xFF, 0, 0x11, nvbdizc 0b1000001) := by decide
/-- Stall steps: the next instruction is fetched when `pending` is 0 again. -/
theorem test_stall :
    (stepCall { start [0xEA] with pending := 4 }).1 = .stalled ∧
      (next { start [0xEA] with pending := 4 }).map (fun t => (t.pending, t.pc)) = some (3, 0x0600) := by decide
theorem test_run_for_3 :
    let r := runFor Config.params 3 (start [0xA9, 0x01, 0xEA, 0x02])
    (r.steps, r.stop, r.state.pending, r.state.pc) = (3, none, 1, 0x0603) := by decide
theorem test_run_for_10 :
    let r := runFor Config.params 10 (start [0xA9, 0x01, 0xEA, 0x02])
    (r.steps, r.stop) = (5, some (.fault (.unimplementedOpcode { op := 0x02, addr := 0x0603 }))) := by decide
/-- S11. -/
theorem test_inject_ldx :
    let r := inject Config.params [0xA2, 0x05] (start [])
    (r.1, r.2.x, r.2.p, r.2.pc, r.2.pending) = (.executed 0x0600 0xA2 2, 0x05, nvbdizc 0, 0x0602, 0) := by decide
/-- S12, from the state S11 leaves. -/
theorem test_inject_stx :
    let r := inject Config.params [0x86, 0x10] { startAt 0x0602 [] with x := 0x05 }
    (r.1, r.2.read 0x0010, r.2.pc, r.2.pending) = (.executed 0x0602 0x86 3, 0x05, 0x0604, 0) := by decide
/-- `withFetchWord` makes the very next step run the instruction. -/
theorem test_withFetchWord :
    (next (State.reset.withFetchWord 16 0x05A2)).map (fun t => (t.x, t.pc, t.pending)) = some (0x05, 0x0002, 1) := by decide

/-! ### Parameters (`00_scope.md` R8) -/

theorem test_jmpInd_without_page_wrap :
    execWith { Config.params with jmpIndPageWrap := false } (.jmpInd 0x02FF)
        (poke [(0x02FF, 0x34), (0x0200, 0x12), (0x0300, 0x56)] State.reset) =
      .next { poke [(0x02FF, 0x34), (0x0200, 0x12), (0x0300, 0x56)] State.reset with pc := 0x5634, pending := 4 } := by rfl
theorem test_php_with_bit4_forced :
    (match execWith { Config.params with pushBMode := .one } .php State.reset with
      | .next t => some (t.read 0x01FF)
      | _ => none) = some 0x30 := by decide
theorem test_adc_refuses_decimal :
    execWith { Config.params with decimalArith := true } (.adcImm 0x10)
        { State.reset with a := 0x50, p := nvbdizc 0b0001000 } = .refused .decimalArithmetic := by rfl

/-! ### Witnesses: the hypotheses of the statements can be met -/

/-- StepKeepsInvariant, HostOperationsKeepInvariant: a running state and a halted one. -/
theorem witness_invariant :
    (start [0xA9, 0x80]).Inv ∧ ((start [0x02]).halt { op := 0x02, addr := 0x0600 }).Inv ∧
      ∃ t, step (start [0xA9, 0x80]) = .next t := by
  refine ⟨?_, ?_, _, rfl⟩ <;> (unfold State.Inv; decide)
/-- DecodedBytesAreTheEncoding: both clauses, BRK with its padding byte absent and present. -/
theorem witness_decoded_bytes :
    decode [0xA2, 0x05, 0x01] = .ok (.ldxImm 0x05, [0x01]) ∧ decode [0x00] = .ok (.brk, []) ∧
      decode [0x00, 0xEA, 0x01] = .ok (.brk, [0x01]) := ⟨rfl, rfl, rfl⟩
/-- UndocumentedOpcodesDoNotDecode: values on both sides of each clause. -/
theorem witness_undocumented : (0x02 : Byte) ∈ undocumented ∧ (0xFF : Byte) ∈ undocumented ∧ (0x00 : Byte) ∉ undocumented ∧
    (0xFE : Byte) ∉ undocumented := by decide
/-- StepRunsDecodedInstruction, PlacedInstructionIsStepped. -/
theorem witness_step_runs_decoded :
    let s := start [0xA9, 0x80]
    s.run = .running ∧ s.pending = 0 ∧
      decode [s.read s.pc, s.read (s.pc + 1), s.read (s.pc + 2)] = .ok (.ldaImm 0x80, [0x00]) ∧
      (Instr.ldaImm 0x80).wellFormed Config.params = true := ⟨rfl, rfl, rfl, rfl⟩
/-- InjectRunsTheInjectedInstruction. -/
theorem witness_inject :
    let s := { start [] with pending := 3 }
    s.run = .running ∧ (Instr.ldxImm 0x05).wellFormed narrow = true ∧
      ∃ t, execWith narrow (.ldxImm 0x05) { s.writeBytes s.pc (encode (.ldxImm 0x05)) with pending := 0 } = .next t :=
  ⟨rfl, rfl, _, rfl⟩
/-- HaltedCoreRepeatsItsFault. -/
theorem witness_halted : ((start [0x02]).halt { op := 0x02, addr := 0x0600 }).run = .halted { op := 0x02, addr := 0x0600 } := rfl
/-- StallStepOnlyCountsDown: `pending` 1 and 6, the bounds the invariant leaves. -/
theorem witness_stall :
    ∀ n ∈ [1, 6], ({ start [0xEA] with pending := n }).run = .running ∧ 0 < ({ start [0xEA] with pending := n }).pending := by
  decide
/-- UnknownOpcodeHaltsTheCore: each side of the disjunction. -/
theorem witness_unknown_opcode :
    (start [0xFF]).run = .running ∧ (start [0xFF]).pending = 0 ∧ (start [0xFF]).read (start [0xFF]).pc ∈ undocumented ∧
      (start [0xA9]).run = .running ∧ (start [0xA9]).pending = 0 ∧
      narrow.implemented ((start [0xA9]).read (start [0xA9]).pc) = false := by decide
/-- InstructionOccupiesItsCost: the costs 2 and 7, the least and the largest. -/
theorem witness_instruction_cost :
    (start [0xEA]).pending = 0 ∧ (next (start [0xEA])).map State.pending = some 1 ∧
      (start [0x00]).pending = 0 ∧ (next (start [0x00])).map State.pending = some 6 := by decide
/-- NoInstructionFaultsAndRunStays: a run that faults on an undocumented opcode, one that faults on an opcode outside
the set, and one that begins halted. -/
theorem witness_faulting_runs :
    (∃ t, execWith narrow .brk (start []) = .next t) ∧
      (runFor Config.params 1 (start [0x02])).stop = some (.fault (.unimplementedOpcode { op := 0x02, addr := 0x0600 })) ∧
      (runFor narrow 1 (start [0xA9])).stop = some (.fault (.unimplementedOpcode { op := 0xA9, addr := 0x0600 })) ∧
      (runFor Config.params 1 ((start [0x02]).halt { op := 0xFF, addr := 0x0300 })).stop =
        some (.fault (.unimplementedOpcode { op := 0xFF, addr := 0x0300 })) := ⟨⟨_, rfl⟩, by decide, by decide, by decide⟩
/-- RunForStopsAtTheFirstStop: unstopped steps before a step that stops, one that does not, and a stopped run. -/
theorem witness_run_for :
    (runFor Config.params 0 (start [0x02])).stop = none ∧
      (stepCall (start [0x02])).1 = .stopped (.fault (.unimplementedOpcode { op := 0x02, addr := 0x0600 })) ∧
      (runFor Config.params 2 (start [0xEA, 0x02])).stop = none ∧
      (stepCall (start [0xEA, 0x02])).1 = .executed 0x0600 0xEA 2 ∧
      (runFor Config.params 3 (start [0xEA, 0x02])).stop =
        some (.fault (.unimplementedOpcode { op := 0x02, addr := 0x0601 })) := by decide
/-- ResetThenFetchAtTheVector. -/
theorem witness_reset_then_fetch :
    let s := poke [(0xFFFC, 0x00), (0xFFFD, 0x06)] (start [0xA9, 0x80])
    decode (s.readBytes (concat (s.read 0xFFFD) (s.read 0xFFFC)) 3) = .ok (.ldaImm 0x80, [0x00]) ∧
      (Instr.ldaImm 0x80).wellFormed Config.params = true := ⟨rfl, rfl⟩
/-- ResolveFoldsTheMirrors: the ends of each range. -/
theorem witness_resolve :
    (0x1FFF : Addr).toNat < 0x2000 ∧ (0x2000 ≤ (0x2000 : Addr).toNat ∧ (0x3FFF : Addr).toNat < 0x4000) ∧
      0x4000 ≤ (0x4000 : Addr).toNat := by decide
/-- ShadowCellsAreNeverTouched: the ends of both ranges, and a step that answers. -/
theorem witness_shadow_cells :
    shadowCell 0x0800 ∧ shadowCell 0x1FFF ∧ shadowCell 0x2008 ∧ shadowCell 0x3FFF ∧
      ∃ t, step (start [0x85, 0x10]) = .next t := by
  refine ⟨?_, ?_, ?_, ?_, _, rfl⟩ <;> (unfold shadowCell; decide)
/-- LoadRefusesByTheFirstFailingCheck, LoadPlacesTheBankTwice: an image that fails a check. -/
theorem witness_failing_image : failsCheck (header 0x00 0x02 0 0 0) .badFormatTag ∧
    (load Config.params (header 0x00 0x02 0 0 0) State.reset).1 = some (.malformedCartridge .badFormatTag) :=
  ⟨by unfold failsCheck; decide, by decide⟩
/-- LoadPlacesTheBankTwice: the header of program P4 passes every check, and 16383 is an offset in the bank. -/
theorem valid_image (bank : List Byte) (h : bank.length = 16384) (reason : MalformedReason) :
    ¬failsCheck (header 0x1A 0x01 0 0 0 ++ bank) reason := by
  cases reason <;> simp [failsCheck, header, h]
  intro k h9 h15
  have : k = 9 ∨ k = 10 ∨ k = 11 ∨ k = 12 ∨ k = 13 ∨ k = 14 ∨ k = 15 := by omega
  rcases this with rfl | rfl | rfl | rfl | rfl | rfl | rfl <;> rfl
theorem witness_valid_image :
    (∀ reason, ¬failsCheck (header 0x1A 0x01 0 0 0 ++ List.replicate 16384 0x00) reason) ∧ 16383 < 16384 :=
  ⟨valid_image _ (List.length_replicate ..), by decide⟩
/-- StackIsLastInFirstOut: the sequence of S3 on the ideal stack, and one that leaves an item. -/
theorem witness_ideal_stack :
    idealStack [.push (.byte 0xAA), .push (.word 0x1234), .push (.byte 0xBB), .popByte, .popWord, .popByte] [] =
        some ([.byte 0xBB, .word 0x1234, .byte 0xAA], []) ∧
      idealStack [.push (.word 0xBEEF)] [] = some ([], [.word 0xBEEF]) := by decide
/-- AdcAddsWithCarry, SbcSubtractsWithBorrow, DecimalArithmeticIsRefusedOrAbsent: both values of DECIMAL_ARITH. -/
theorem witness_decimal :
    let par := { Config.params with decimalArith := true }
    let s := { State.reset with p := nvbdizc 0b0001000 }
    isAdc (.adcImm 0x10) = true ∧ isSbc (.sbcIndY 0x10) = true ∧ par.decimalArith = true ∧ s.p.d = true ∧
      Config.params.decimalArith = false ∧ ∃ t, execWith Config.params (.adcImm 0x10) s = .next t :=
  ⟨rfl, rfl, rfl, rfl, rfl, _, rfl⟩
/-- RegistersAreWrittenOnlyByTheirInstructions: NOP is outside every class. -/
theorem witness_registers :
    (∃ t, exec .nop State.reset = .next t) ∧ writesA .nop = false ∧ writesX .nop = false ∧ writesY .nop = false ∧
      writesSp .nop = false ∧ writesMem .nop = false := ⟨⟨_, rfl⟩, rfl, rfl, rfl, rfl, rfl⟩
/-- FlagsAreWrittenOnlyByTheirInstructions: STA is outside every class. -/
theorem witness_flags :
    (∃ t, exec (.staZp 0x10) State.reset = .next t) ∧ writesC (.staZp 0x10) = false ∧ writesNZ (.staZp 0x10) = false ∧
      writesI (.staZp 0x10) = false ∧ writesD (.staZp 0x10) = false ∧ writesB (.staZp 0x10) = false ∧
      writesV (.staZp 0x10) = false := ⟨⟨_, rfl⟩, rfl, rfl, rfl, rfl, rfl, rfl⟩
/-- InstructionsDoNotReadPendingRunOrI. -/
theorem witness_not_read :
    (Instr.rti ≠ .php) ∧ (Instr.rti ≠ .brk) ∧ ∃ t, exec .rti State.reset = .next t := ⟨by decide, by decide, _, rfl⟩

end Sys2Proof.Tests
end

section
/-! PROOFS of the family `10_state.md`: the packed status byte, what an instruction may write, and the invariant. -/

/-! ### The packed status byte (`10_state.md` R27 to R29) -/

namespace Sys2Proof.Machine

open Sys2Proof.Stmt

@[simp] theorem bitAt_getLsbD (f : Bool) (k j : Nat) : (bitAt f k).getLsbD j = (f && decide (j < 8 ∧ j = k)) := by
  cases f
  · simp [bitAt]
  · have hbit : bitAt true k = 1#8 <<< k := rfl
    rw [hbit, BitVec.getLsbD_shiftLeft, BitVec.getLsbD_one, Bool.eq_iff_iff]
    simp only [Nat.ofNat_pos, decide_true, Bool.true_and, Bool.and_eq_true, decide_eq_true_eq,
      Bool.not_eq_eq_eq_not, Bool.not_true, decide_eq_false_iff_not, not_lt, Bool.decide_and]
    omega

/-- Each bit of the packed byte, by its number (R27). -/
theorem Flags.pack_getLsbD (p : Flags) (bit4 : Bool) (j : Nat) :
    (p.pack bit4).getLsbD j =
      match j with
      | 0 => p.c
      | 1 => p.z
      | 2 => p.i
      | 3 => p.d
      | 4 => bit4
      | 5 => true
      | 6 => p.v
      | 7 => p.n
      | _ => false := by
  simp only [Flags.pack, BitVec.getLsbD_or, bitAt_getLsbD]
  split <;> simp_all

/-- Disjoint bits: their union is their sum. -/
theorem Flags.pack_eq_statusByte (p : Flags) (bit4 : Bool) : p.pack bit4 = statusByte p bit4 := by
  have disjoint : ∀ n v d i z c : Bool,
      bitAt n 7 ||| bitAt v 6 ||| bitAt true 5 ||| bitAt bit4 4 ||| bitAt d 3 ||| bitAt i 2 ||| bitAt z 1
          ||| bitAt c 0 =
        BitVec.ofNat 8 (128 * bitNat n + 64 * bitNat v + 32 + 16 * bitNat bit4 + 8 * bitNat d + 4 * bitNat i
          + 2 * bitNat z + bitNat c) := by
    revert bit4; decide
  exact disjoint ..

/-- A bit of a byte, read off its number. -/
theorem getLsbD_eq_decide (b : Byte) (k : Nat) : b.getLsbD k = decide (b.toNat / 2 ^ k % 2 = 1) :=
  Nat.testBit_eq_decide_div_mod_eq

/-- `Unpack` discards bit 5 (R28). -/
theorem Flags.unpack_or_bit5 (b : Byte) : Flags.unpack (b ||| 0x20) = Flags.unpack b := by
  simp [Flags.unpack]

theorem Flags.unpack_pack (p : Flags) (bit4 : Bool) : Flags.unpack (p.pack bit4) = { p with b := bit4 } := by
  simp only [Flags.unpack, Flags.pack_getLsbD]

/-- Packing what was unpacked gives the byte with the forced bit 5 set. -/
theorem Flags.pack_unpack (b : Byte) : (Flags.unpack b).pack (b.getLsbD 4) = b ||| 0x20 := by
  refine BitVec.eq_of_getLsbD_eq fun j hj => ?_
  rw [Flags.pack_getLsbD, BitVec.getLsbD_or]
  interval_cases j <;> simp [Flags.unpack]

end Sys2Proof.Machine

namespace Sys2Proof.Proofs

open Sys2Proof.Machine Sys2Proof.Stmt

/-- Settles O26: the packed byte as the sum of its disjoint bits, and each unpacked flag as a bit of the byte's number. -/
theorem statusByteLayout : Obligations.StatusByteLayout := by
  refine ⟨Flags.pack_eq_statusByte, fun b => ⟨?_, Flags.unpack_or_bit5 b⟩, fun _ => rfl⟩
  simp only [Flags.unpack, getLsbD_eq_decide, Nat.reducePow, Nat.div_one]

/-- Settles O27: the two packing laws of R29. -/
theorem statusRoundTrips : Obligations.StatusRoundTrips :=
  ⟨fun p => Flags.unpack_pack p p.b, Flags.pack_unpack⟩

end Sys2Proof.Proofs

/-! ### What an instruction leaves unchanged

`KeepsUnwritten i` says that a change of flags or of state stays inside what the spec lets `i` write. There is one
rule for each state operation; the rules chain by `trans`, through the instruction shapes to `exec`. -/

namespace Sys2Proof.Machine

open Sys2Proof.Stmt

/-- Every flag that `ins` is not named as writing (`10_state.md` R26) is in `q` as in `p`. -/
structure Flags.KeepsUnwritten (ins : Instr) (p q : Flags) : Prop where
  c : writesC ins = false → q.c = p.c
  nz : writesNZ ins = false → q.z = p.z ∧ q.n = p.n
  i : writesI ins = false → q.i = p.i
  d : writesD ins = false → q.d = p.d
  b : writesB ins = false → q.b = p.b
  v : writesV ins = false → q.v = p.v

/-- Every register and flag, and the memory, that `ins` is not named as writing (`10_state.md` R21 to R26,
`41_addressing.md` R136) is in `t` as in `s`. The run state is kept by every instruction. -/
structure State.KeepsUnwritten (ins : Instr) (s t : State) : Prop where
  a : writesA ins = false → t.a = s.a
  x : writesX ins = false → t.x = s.x
  y : writesY ins = false → t.y = s.y
  sp : writesSp ins = false → t.sp = s.sp
  mem : writesMem ins = false → t.mem = s.mem
  p : Flags.KeepsUnwritten ins s.p t.p
  run : t.run = s.run

section
variable {i : Instr}

/-! #### Flags -/

namespace Flags
variable {p q r : Flags}

theorem KeepsUnwritten.refl : KeepsUnwritten i p p :=
  ⟨fun _ => rfl, fun _ => ⟨rfl, rfl⟩, fun _ => rfl, fun _ => rfl, fun _ => rfl, fun _ => rfl⟩

theorem KeepsUnwritten.trans (h : KeepsUnwritten i p q) (k : KeepsUnwritten i q r) : KeepsUnwritten i p r where
  c e := (k.c e).trans (h.c e)
  nz e := ⟨(k.nz e).1.trans (h.nz e).1, (k.nz e).2.trans (h.nz e).2⟩
  i e := (k.i e).trans (h.i e)
  d e := (k.d e).trans (h.d e)
  b e := (k.b e).trans (h.b e)
  v e := (k.v e).trans (h.v e)

/-- An instruction that writes every flag may leave any flags. -/
theorem keeps_of_writes_all (hc : writesC i = true) (hnz : writesNZ i = true) (hi : writesI i = true)
    (hd : writesD i = true) (hb : writesB i = true) (hv : writesV i = true) : KeepsUnwritten i p q := by
  constructor <;> simp [*]

variable {f g : Bool} {m n : Byte}

theorem setC_keeps (hc : writesC i = true) : KeepsUnwritten i p { p with c := f } :=
  { KeepsUnwritten.refl (p := p) with c := by simp [hc] }

theorem setZN_keeps (hnz : writesNZ i = true) : KeepsUnwritten i p { p with z := f, n := g } :=
  { KeepsUnwritten.refl (p := p) with nz := by simp [hnz] }

theorem setI_keeps (hi : writesI i = true) : KeepsUnwritten i p { p with i := f } :=
  { KeepsUnwritten.refl (p := p) with i := by simp [hi] }

theorem setD_keeps (hd : writesD i = true) : KeepsUnwritten i p { p with d := f } :=
  { KeepsUnwritten.refl (p := p) with d := by simp [hd] }

theorem setB_keeps (hb : writesB i = true) : KeepsUnwritten i p { p with b := f } :=
  { KeepsUnwritten.refl (p := p) with b := by simp [hb] }

theorem setV_keeps (hv : writesV i = true) : KeepsUnwritten i p { p with v := f } :=
  { KeepsUnwritten.refl (p := p) with v := by simp [hv] }

theorem setNZ_keeps (hnz : writesNZ i = true) : KeepsUnwritten i p (p.setNZ m) := setZN_keeps hnz

theorem addWithCarry_keeps (hc : writesC i = true) (hnz : writesNZ i = true) (hv : writesV i = true) :
    KeepsUnwritten i p (p.addWithCarry m n).2 :=
  (setC_keeps hc).trans ((setV_keeps hv).trans (setNZ_keeps hnz))

/-- C and then `SetNZ`: what the comparisons, the shifts and the rotations do to the flags. -/
theorem setC_setNZ_keeps (hc : writesC i = true) (hnz : writesNZ i = true) :
    KeepsUnwritten i p (Flags.setNZ { p with c := f } m) :=
  (setC_keeps hc).trans (setNZ_keeps hnz)

theorem bitTest_keeps (hnz : writesNZ i = true) (hv : writesV i = true) : KeepsUnwritten i p (p.bitTest m n) :=
  (setV_keeps (f := bit6 n) hv).trans (setZN_keeps hnz)

end Flags

/-! #### Registers, memory and the stack -/

namespace State
variable {s t u : State}

theorem KeepsUnwritten.refl : KeepsUnwritten i s s :=
  ⟨fun _ => rfl, fun _ => rfl, fun _ => rfl, fun _ => rfl, fun _ => rfl, .refl, rfl⟩

theorem KeepsUnwritten.trans (h : KeepsUnwritten i s t) (k : KeepsUnwritten i t u) : KeepsUnwritten i s u where
  a e := (k.a e).trans (h.a e)
  x e := (k.x e).trans (h.x e)
  y e := (k.y e).trans (h.y e)
  sp e := (k.sp e).trans (h.sp e)
  mem e := (k.mem e).trans (h.mem e)
  p := h.p.trans k.p
  run := k.run.trans h.run

variable {v : Byte} {w : Addr} {n : Nat} {q : Flags}

theorem setA_keeps (ha : writesA i = true) : KeepsUnwritten i s (s.setA v) :=
  { KeepsUnwritten.refl (s := s) with a := by simp [ha] }

theorem setX_keeps (hx : writesX i = true) : KeepsUnwritten i s (s.setX v) :=
  { KeepsUnwritten.refl (s := s) with x := by simp [hx] }

theorem setY_keeps (hy : writesY i = true) : KeepsUnwritten i s (s.setY v) :=
  { KeepsUnwritten.refl (s := s) with y := by simp [hy] }

theorem setSp_keeps (hsp : writesSp i = true) : KeepsUnwritten i s (s.setSp v) :=
  { KeepsUnwritten.refl (s := s) with sp := by simp [hsp] }

theorem setP_keeps (hq : Flags.KeepsUnwritten i s.p q) : KeepsUnwritten i s (s.setP q) :=
  { KeepsUnwritten.refl (s := s) with p := hq }

theorem write_keeps (hm : writesMem i = true) : KeepsUnwritten i s (s.write w v) :=
  { KeepsUnwritten.refl (s := s) with mem := by simp [hm] }

theorem setPc_keeps : KeepsUnwritten i s (s.setPc w) := { KeepsUnwritten.refl (s := s) with }

theorem advance_keeps : KeepsUnwritten i s (s.advance n) := { KeepsUnwritten.refl (s := s) with }

theorem stall_keeps : KeepsUnwritten i s (s.stall n) := { KeepsUnwritten.refl (s := s) with }

theorem setNZ_keeps (hnz : writesNZ i = true) : KeepsUnwritten i s (s.setNZ v) := setP_keeps (Flags.setNZ_keeps hnz)

theorem push_keeps (hsp : writesSp i = true) (hm : writesMem i = true) : KeepsUnwritten i s (s.push v) :=
  (write_keeps hm).trans (setSp_keeps hsp)

theorem push16_keeps (hsp : writesSp i = true) (hm : writesMem i = true) : KeepsUnwritten i s (s.push16 w) :=
  (push_keeps hsp hm).trans (push_keeps hsp hm)

theorem takeTrap_keeps (hsp : writesSp i = true) (hm : writesMem i = true) (hb : writesB i = true)
    (hi : writesI i = true) : KeepsUnwritten i s (s.takeTrap w) :=
  ((push16_keeps hsp hm).trans (setP_keeps (Flags.setB_keeps hb))).trans
    (((push_keeps hsp hm).trans (setP_keeps (Flags.setI_keeps hi))).trans setPc_keeps)

/-! #### The effects of the instructions -/

theorem loadA_keeps (ha : writesA i = true) (hnz : writesNZ i = true) : KeepsUnwritten i s (s.loadA v) :=
  (setA_keeps ha).trans (setNZ_keeps hnz)

theorem loadX_keeps (hx : writesX i = true) (hnz : writesNZ i = true) : KeepsUnwritten i s (s.loadX v) :=
  (setX_keeps hx).trans (setNZ_keeps hnz)

theorem loadY_keeps (hy : writesY i = true) (hnz : writesNZ i = true) : KeepsUnwritten i s (s.loadY v) :=
  (setY_keeps hy).trans (setNZ_keeps hnz)

theorem addA_keeps (ha : writesA i = true) (hc : writesC i = true) (hnz : writesNZ i = true) (hv : writesV i = true) :
    KeepsUnwritten i s (s.addA v) :=
  (setA_keeps ha).trans (setP_keeps (Flags.addWithCarry_keeps hc hnz hv))

theorem subA_keeps (ha : writesA i = true) (hc : writesC i = true) (hnz : writesNZ i = true) (hv : writesV i = true) :
    KeepsUnwritten i s (s.subA v) :=
  addA_keeps (v := ~~~v) ha hc hnz hv

theorem pullA_keeps (ha : writesA i = true) (hnz : writesNZ i = true) (hsp : writesSp i = true) :
    KeepsUnwritten i s s.pullA :=
  (setSp_keeps hsp).trans (loadA_keeps ha hnz)

theorem call_keeps (hsp : writesSp i = true) (hm : writesMem i = true) : KeepsUnwritten i s (s.call w) :=
  (push16_keeps hsp hm).trans setPc_keeps

theorem returnSub_keeps (hsp : writesSp i = true) : KeepsUnwritten i s s.returnSub :=
  (setSp_keeps hsp).trans setPc_keeps

theorem pullP_keeps (hsp : writesSp i = true) (hp : ∀ p q, Flags.KeepsUnwritten i p q) : KeepsUnwritten i s s.pullP :=
  (setSp_keeps hsp).trans (setP_keeps (hp _ _))

theorem returnFromTrap_keeps (hsp : writesSp i = true) (hp : ∀ p q, Flags.KeepsUnwritten i p q) :
    KeepsUnwritten i s s.returnFromTrap :=
  ((setSp_keeps hsp).trans (setP_keeps (hp _ _))).trans ((setSp_keeps hsp).trans setPc_keeps)

end State

/-! #### The shapes of instruction -/

/-- `t` is what `i` may leave from `s`: what it does not write is kept, and at most 6 cycles are left to stall out,
the largest cost being 7 (`70_reset_and_hazards.md` R340). -/
structure Ran (i : Instr) (s t : State) : Prop where
  keeps : State.KeepsUnwritten i s t
  pending_le : t.pending ≤ 6

/-- After its effect an instruction reports its cost: `pending <- cost - 1` (`40_dispatch.md` R101). -/
theorem State.KeepsUnwritten.ran_stall {i : Instr} {s t : State} {cost : Nat} (h : State.KeepsUnwritten i s t)
    (hcost : cost ≤ 7) : Ran i s (t.stall cost) :=
  ⟨h.trans State.stall_keeps, Nat.sub_le_of_le_add hcost⟩

theorem bitNat_le_one (f : Bool) : bitNat f ≤ 1 := by cases f <;> decide

variable {s t : State} {c : Nat}

theorem readExec_ran {o : Operand} {f : Byte → State → State} (h : readExec o c f s = .next t) (hc : c ≤ 6)
    (hf : ∀ v u, State.KeepsUnwritten i u (f v u)) : Ran i s t := by
  rw [readExec_next] at h
  subst h
  exact (State.advance_keeps.trans (hf _ _)).ran_stall (Nat.add_le_add hc (o.penalty_le s))

theorem writeExec_ran {m : MemMode} {v : Byte} (h : writeExec m c v s = .next t) (hc : c ≤ 7)
    (hm : writesMem i = true) : Ran i s t := by
  rw [writeExec_next] at h
  subst h
  exact (State.advance_keeps.trans (State.write_keeps hm)).ran_stall hc

theorem modifyExec_ran {m : MemMode} {f : Flags → Byte → Byte × Flags} (h : modifyExec m c f s = .next t)
    (hc : c ≤ 7) (hm : writesMem i = true) (hf : ∀ p v, Flags.KeepsUnwritten i p (f p v).2) : Ran i s t := by
  rw [modifyExec_next] at h
  subst h
  exact ((State.advance_keeps.trans (State.write_keeps hm)).trans (State.setP_keeps (hf _ _))).ran_stall hc

theorem accExec_ran {f : Flags → Byte → Byte × Flags} (h : accExec c f s = .next t) (hc : c ≤ 7)
    (ha : writesA i = true) (hf : ∀ p v, Flags.KeepsUnwritten i p (f p v).2) : Ran i s t := by
  rw [accExec_next] at h
  subst h
  exact ((State.advance_keeps.trans (State.setA_keeps ha)).trans (State.setP_keeps (hf _ _))).ran_stall hc

theorem impliedExec_ran {f : State → State} (h : impliedExec c f s = .next t) (hc : c ≤ 7)
    (hf : ∀ u, State.KeepsUnwritten i u (f u)) : Ran i s t := by
  rw [impliedExec_next] at h
  subst h
  exact (State.advance_keeps.trans (hf _)).ran_stall hc

/-- A taken branch costs at most 2 cycles more (`47_control.md` R250). -/
theorem branchExec_ran {cond : Bool} {d : Byte} (h : branchExec c cond d s = .next t) (hc : c ≤ 5) : Ran i s t := by
  rcases (branchExec_next _ _ _ _ _).1 h with ⟨_, rfl⟩ | ⟨_, rfl⟩
  · exact State.setPc_keeps.ran_stall (Nat.add_le_add (Nat.succ_le_succ hc) (bitNat_le_one _))
  · exact State.setPc_keeps.ran_stall (hc.trans (by decide))

theorem phpWith_ran {mode : PushBMode} (h : phpWith mode s = .next t) : Ran .php s t :=
  impliedExec_ran h (by decide) fun _ => State.push_keeps rfl rfl

theorem jmpAbs_ran {w : Addr} (h : execJmpAbs w s = .next t) : Ran i s t := by
  cases h
  exact State.setPc_keeps.ran_stall (by decide)

theorem jmpIndWith_ran {pageWrap : Bool} {ptr : Addr} (h : jmpIndWith pageWrap ptr s = .next t) : Ran i s t := by
  cases h
  exact State.setPc_keeps.ran_stall (by decide)

theorem jsr_ran {w : Addr} (h : execJsr w s = .next t) : Ran (.jsr w) s t := by
  cases h
  exact (State.advance_keeps.trans (State.call_keeps rfl rfl)).ran_stall (by decide)

theorem brk_ran (h : execBrk s = .next t) : Ran .brk s t := by
  cases h
  exact (State.advance_keeps.trans (State.takeTrap_keeps rfl rfl rfl rfl)).ran_stall (by decide)

/-- Every instruction stays inside what the spec names it as writing, and inside the largest cost. -/
theorem exec_ran (h : exec i s = .next t) : Ran i s t := by
  cases i with
  | ldaImm | ldaZp | ldaZpX | ldaAbs | ldaAbsX | ldaAbsY | ldaIndX | ldaIndY | andImm | andZp | andZpX | andAbs
  | andAbsX | andAbsY | andIndX | andIndY | oraImm | oraZp | oraZpX | oraAbs | oraAbsX | oraAbsY | oraIndX
  | oraIndY | eorImm | eorZp | eorZpX | eorAbs | eorAbsX | eorAbsY | eorIndX | eorIndY =>
    exact readExec_ran h (by decide) fun _ _ => State.loadA_keeps rfl rfl
  | ldxImm | ldxZp | ldxZpY | ldxAbs | ldxAbsY =>
    exact readExec_ran h (by decide) fun _ _ => State.loadX_keeps rfl rfl
  | ldyImm | ldyZp | ldyZpX | ldyAbs | ldyAbsX =>
    exact readExec_ran h (by decide) fun _ _ => State.loadY_keeps rfl rfl
  | adcImm | adcZp | adcZpX | adcAbs | adcAbsX | adcAbsY | adcIndX | adcIndY =>
    exact readExec_ran h (by decide) fun _ _ => State.addA_keeps rfl rfl rfl rfl
  | sbcImm | sbcZp | sbcZpX | sbcAbs | sbcAbsX | sbcAbsY | sbcIndX | sbcIndY =>
    exact readExec_ran h (by decide) fun _ _ => State.subA_keeps rfl rfl rfl rfl
  | cmpImm | cmpZp | cmpZpX | cmpAbs | cmpAbsX | cmpAbsY | cmpIndX | cmpIndY | cpxImm | cpxZp | cpxAbs | cpyImm
  | cpyZp | cpyAbs => exact readExec_ran h (by decide) fun _ _ => State.setP_keeps (Flags.setC_setNZ_keeps rfl rfl)
  | bitZp | bitAbs => exact readExec_ran h (by decide) fun _ _ => State.setP_keeps (Flags.bitTest_keeps rfl rfl)
  | staZp | staZpX | staAbs | staAbsX | staAbsY | staIndX | staIndY | stxZp | stxZpY | stxAbs | styZp | styZpX
  | styAbs => exact writeExec_ran h (by decide) rfl
  | incZp | incZpX | incAbs | incAbsX =>
    exact modifyExec_ran (f := Flags.inc) h (by decide) rfl fun _ _ => Flags.setNZ_keeps rfl
  | decZp | decZpX | decAbs | decAbsX =>
    exact modifyExec_ran (f := Flags.dec) h (by decide) rfl fun _ _ => Flags.setNZ_keeps rfl
  | aslZp | aslZpX | aslAbs | aslAbsX =>
    exact modifyExec_ran (f := Flags.asl) h (by decide) rfl fun _ _ => Flags.setC_setNZ_keeps rfl rfl
  | lsrZp | lsrZpX | lsrAbs | lsrAbsX =>
    exact modifyExec_ran (f := Flags.lsr) h (by decide) rfl fun _ _ => Flags.setC_setNZ_keeps rfl rfl
  | rolZp | rolZpX | rolAbs | rolAbsX =>
    exact modifyExec_ran (f := Flags.rol) h (by decide) rfl fun _ _ => Flags.setC_setNZ_keeps rfl rfl
  | rorZp | rorZpX | rorAbs | rorAbsX =>
    exact modifyExec_ran (f := Flags.ror) h (by decide) rfl fun _ _ => Flags.setC_setNZ_keeps rfl rfl
  | aslAcc => exact accExec_ran (f := Flags.asl) h (by decide) rfl fun _ _ => Flags.setC_setNZ_keeps rfl rfl
  | lsrAcc => exact accExec_ran (f := Flags.lsr) h (by decide) rfl fun _ _ => Flags.setC_setNZ_keeps rfl rfl
  | rolAcc => exact accExec_ran (f := Flags.rol) h (by decide) rfl fun _ _ => Flags.setC_setNZ_keeps rfl rfl
  | rorAcc => exact accExec_ran (f := Flags.ror) h (by decide) rfl fun _ _ => Flags.setC_setNZ_keeps rfl rfl
  | txa | tya => exact impliedExec_ran h (by decide) fun _ => State.loadA_keeps rfl rfl
  | tax | tsx | inx | dex => exact impliedExec_ran h (by decide) fun _ => State.loadX_keeps rfl rfl
  | tay | iny | dey => exact impliedExec_ran h (by decide) fun _ => State.loadY_keeps rfl rfl
  | txs => exact impliedExec_ran (exec_txs s ▸ h) (by decide) fun _ => State.setSp_keeps rfl
  | pha => exact impliedExec_ran (exec_pha s ▸ h) (by decide) fun _ => State.push_keeps rfl rfl
  | php => exact phpWith_ran h
  | pla => exact impliedExec_ran h (by decide) fun _ => State.pullA_keeps rfl rfl rfl
  | plp =>
    exact impliedExec_ran h (by decide) fun _ => State.pullP_keeps rfl fun _ _ =>
      Flags.keeps_of_writes_all rfl rfl rfl rfl rfl rfl
  | rti =>
    exact impliedExec_ran h (by decide) fun _ => State.returnFromTrap_keeps rfl fun _ _ =>
      Flags.keeps_of_writes_all rfl rfl rfl rfl rfl rfl
  | rts => exact impliedExec_ran h (by decide) fun _ => State.returnSub_keeps rfl
  | clc => exact impliedExec_ran (exec_clc s ▸ h) (by decide) fun _ => State.setP_keeps (Flags.setC_keeps rfl)
  | sec => exact impliedExec_ran (exec_sec s ▸ h) (by decide) fun _ => State.setP_keeps (Flags.setC_keeps rfl)
  | cli => exact impliedExec_ran (exec_cli s ▸ h) (by decide) fun _ => State.setP_keeps (Flags.setI_keeps rfl)
  | sei => exact impliedExec_ran (exec_sei s ▸ h) (by decide) fun _ => State.setP_keeps (Flags.setI_keeps rfl)
  | cld => exact impliedExec_ran (exec_cld s ▸ h) (by decide) fun _ => State.setP_keeps (Flags.setD_keeps rfl)
  | sed => exact impliedExec_ran (exec_sed s ▸ h) (by decide) fun _ => State.setP_keeps (Flags.setD_keeps rfl)
  | clv => exact impliedExec_ran (exec_clv s ▸ h) (by decide) fun _ => State.setP_keeps (Flags.setV_keeps rfl)
  | nop => exact impliedExec_ran (exec_nop s ▸ h) (by decide) fun _ => .refl
  | bcc | bcs | beq | bne | bmi | bpl | bvc | bvs => exact branchExec_ran h (by decide)
  | jmpAbs => exact jmpAbs_ran h
  | jmpInd => exact jmpIndWith_ran h
  | jsr => exact jsr_ran h
  | brk => exact brk_ran h

/-- The same under any parameters: PHP and JMP (abs), which read one, write what they write at the defaults. -/
theorem execWith_ran {par : Params} (h : execWith par i s = .next t) : Ran i s t := by
  rcases execWith_next h with h | ⟨rfl, h⟩ | ⟨ptr, rfl, h⟩
  · exact exec_ran h
  · exact phpWith_ran h
  · exact jmpIndWith_ran h

end

end Sys2Proof.Machine

namespace Sys2Proof.Proofs

open Sys2Proof.Machine

/-- Settles O55: the registers and memory in `exec_ran`. -/
theorem registersAreWrittenOnlyByTheirInstructions : Obligations.RegistersAreWrittenOnlyByTheirInstructions := by
  intro i s t h
  have k := (exec_ran h).keeps
  exact ⟨k.a, k.x, k.y, k.sp, k.mem⟩

/-- Settles O56: the flags in `exec_ran`. -/
theorem flagsAreWrittenOnlyByTheirInstructions : Obligations.FlagsAreWrittenOnlyByTheirInstructions := by
  intro i s t h
  have k := (exec_ran h).keeps.p
  exact ⟨k.c, k.nz, k.i, k.d, k.b, k.v⟩

end Sys2Proof.Proofs

/-! ### The invariant -/

namespace Sys2Proof.Machine

/-- An instruction run by a running core keeps the invariant: memory changes through the bus alone, the cost is at
most 7, and the core stays running. -/
theorem State.Inv.of_execWith_next {par : Params} {i : Instr} {s t : State} (hs : s.Inv) (hrun : s.run = .running)
    (h : execWith par i s = .next t) : t.Inv := by
  have ⟨keeps, hpending⟩ := execWith_ran h
  have hstore : ∀ (m : Memory) a v, m.wf → (m.store (resolve a).toNat v).wf :=
    fun _ a v hm => Memory.store_wf hm (resolve a).isLt v
  exact ⟨execWith_mem_of (Q := Memory.wf) hstore h hs.1, hpending, fun hne => absurd (keeps.run.trans hrun) hne⟩

/-- A Stall step keeps the invariant. -/
theorem State.Inv.stallStep {s : State} (hs : s.Inv) (hrun : s.run = .running) :
    (s.setPending (s.pending - 1)).Inv :=
  have ⟨hmem, hpending, _⟩ := hs
  ⟨hmem, (Nat.sub_le ..).trans hpending, fun hne => absurd hrun hne⟩

/-- The fault of a Fetch step keeps the invariant: `pending` is 0 there (`40_dispatch.md` R106). -/
theorem State.Inv.halt {s : State} (hs : s.Inv) (hp : s.pending = 0) (f : OpcodeFault) : (s.halt f).Inv :=
  have ⟨hmem, hpending, _⟩ := hs
  ⟨hmem, hpending, fun _ => hp⟩

/-- `step()` keeps the invariant under any parameters, whether it answers a next state or stops. -/
theorem State.Inv.stepIn (par : Params) {s : State} (hs : s.Inv) : (stepIn par s).2.Inv := by
  rcases stepIn_cases par s with
    ⟨f, _, e⟩ | ⟨hrun, _, e⟩ | ⟨hrun, hp, ⟨f, _, e⟩ | ⟨_, _, _, he, e⟩ | ⟨_, _, _, _, e⟩⟩ <;> rw [e]
  · exact hs
  · exact hs.stallStep hrun
  · exact hs.halt hp f
  · exact hs.of_execWith_next hrun he
  · exact hs

/-- A next state of the step is the state `stepCall` leaves. -/
theorem step_next_eq {s t : State} (h : step s = .next t) : (stepCall s).2 = t := by
  unfold step at h
  rcases hs : stepCall s with ⟨_ | _ | (_ | _), u⟩ <;> simp_all [outcomeOf]

end Sys2Proof.Machine

namespace Sys2Proof.Proofs

open Sys2Proof.Machine

/-- Settles O2: the reset state lists no cell, runs, and has nothing pending. -/
theorem invariantHoldsAtReset : Obligations.InvariantHoldsAtReset :=
  ⟨reset_mem_wf, Nat.zero_le 6, fun _ => rfl⟩

/-- Settles O3, by the cases of `step()`: a Stall step, a fault, an instruction, or no change. -/
theorem stepKeepsInvariant : Obligations.StepKeepsInvariant := by
  intro s hs
  have left : (stepCall s).2.Inv := stepIn_default s ▸ hs.stepIn Config.params
  exact ⟨left, fun t ht => step_next_eq ht ▸ left⟩

end Sys2Proof.Proofs
end

section
/-! PROOFS of the family `20_memory.md`: mirror resolution and the bus, the cells no address reaches, the instruction
placed at PC, and the cartridge image. -/

/-! ### Mirror resolution (`20_memory.md` R51, R52) -/

namespace Sys2Proof.Machine

/-- R52 on numbers, by the range of the address. -/
theorem resolve_toNat (a : Addr) :
    (resolve a).toNat =
      if a.toNat < 0x2000 then a.toNat % 0x0800
      else if a.toNat < 0x4000 then 0x2000 + a.toNat % 8
      else a.toNat := by
  have hram : (a &&& 0x07FF).toNat = a.toNat % 2 ^ 11 := by
    rw [BitVec.toNat_and]
    exact Nat.and_two_pow_sub_one_eq_mod _ 11
  have hregs : (0x2000 ||| (a &&& 0x0007)).toNat = 0x2000 + a.toNat % 8 := by
    have hmod : a.toNat &&& 7 = a.toNat % 8 := Nat.and_two_pow_sub_one_eq_mod _ 3
    have hor := Nat.two_pow_add_eq_or_of_lt (i := 13) (b := a.toNat % 8) (by omega) 1
    rw [BitVec.toNat_or, BitVec.toNat_and]
    exact (congrArg _ hmod).trans hor.symm
  have hlow : a < 0x2000 ↔ a.toNat < 0x2000 := Iff.rfl
  have hmid : a < 0x4000 ↔ a.toNat < 0x4000 := Iff.rfl
  simp only [resolve, hlow, hmid]
  split_ifs
  · exact hram
  · exact hregs
  · rfl

/-- An address from 0x4000 on shares its cell with no other address. -/
theorem resolve_eq_iff_of_high {a : Addr} (ha : 0x4000 ≤ a.toNat) (b : Addr) : resolve a = resolve b ↔ a = b := by
  refine ⟨fun h => BitVec.eq_of_toNat_eq ?_, congrArg resolve⟩
  have h := congrArg BitVec.toNat h
  rw [resolve_toNat, resolve_toNat] at h
  split_ifs at h <;> omega

/-- Addresses less than 8 apart, modulo 2^16, share no cell: 8 is the shorter of the two mirror periods. -/
theorem resolve_add_ne (a : Addr) {n : Nat} (hpos : 0 < n) (hlt : n < 8) :
    resolve a ≠ resolve (a + BitVec.ofNat 16 n) := by
  intro h
  have h := congrArg BitVec.toNat h
  rw [resolve_toNat, resolve_toNat, BitVec.toNat_add, BitVec.toNat_ofNat] at h
  split_ifs at h <;> omega

/-- No address resolves to a shadow cell (R51). -/
theorem not_shadowCell_resolve (a : Addr) : ¬shadowCell (resolve a).toNat := by
  rw [resolve_toNat, shadowCell]
  split_ifs <;> omega

/-! ### The bus (R53 to R56) -/

/-- A write is seen exactly where the cell is the same. -/
theorem State.write_read (s : State) (a b : Addr) (v : Byte) :
    (s.write a v).read b = if resolve a = resolve b then v else s.read b := by
  simp only [State.read, State.write_cell, BitVec.toNat_inj, eq_comm]

theorem State.write_read_same (s : State) (a : Addr) (v : Byte) : (s.write a v).read a = v := by
  rw [State.write_read, if_pos rfl]

theorem State.write_read_other {s : State} {a b : Addr} {v : Byte} (h : resolve a ≠ resolve b) :
    (s.write a v).read b = s.read b := by
  rw [State.write_read, if_neg h]

theorem lowByte_eq_ofNat (w : Addr) : lowByte w = BitVec.ofNat 8 (w.toNat % 256) := by
  apply BitVec.eq_of_toNat_eq
  rw [lowByte_toNat, BitVec.toNat_ofNat, Nat.mod_mod]

theorem highByte_eq_ofNat (w : Addr) : highByte w = BitVec.ofNat 8 (w.toNat / 256) := by
  have := w.isLt
  apply BitVec.eq_of_toNat_eq
  rw [highByte_toNat, BitVec.toNat_ofNat]
  omega

theorem addr_succ_eq_ofNat (a : Addr) : a + 1 = BitVec.ofNat 16 ((a.toNat + 1) % 65536) := by
  apply BitVec.eq_of_toNat_eq
  rw [BitVec.toNat_add, BitVec.toNat_ofNat, Nat.mod_mod]
  rfl

/-- A word reads back whole: its two bytes are in different cells. -/
theorem State.write16_read16 (s : State) (a w : Addr) : (s.write16 a w).read16 a = w := by
  have hne : resolve (a + 1) ≠ resolve a := (resolve_add_ne a (n := 1) (by decide) (by decide)).symm
  rw [State.read16, State.write16, State.write_read_same, State.write_read_other hne, State.write_read_same,
    concat_highByte_lowByte]

end Sys2Proof.Machine

namespace Sys2Proof.Proofs

open Sys2Proof.Machine

/-- Settles O20: the three ranges of `resolve_toNat`. -/
theorem resolveFoldsTheMirrors : Obligations.ResolveFoldsTheMirrors := by
  intro a
  have hres := resolve_toNat a
  refine ⟨fun hlow => ?_, fun hge hlt => ?_, fun hhigh => BitVec.eq_of_toNat_eq ?_⟩
  · rw [hres, if_pos hlow]
  · rw [hres, if_neg (by omega), if_pos hlt]
  · rw [hres, if_neg (by omega), if_neg (by omega)]

/-- Settles O21: a write changes one cell of the backing array and no other field. -/
theorem writeIsSeenExactlyThroughItsMirrors : Obligations.WriteIsSeenExactlyThroughItsMirrors := by
  intro s a b v
  refine ⟨s.write_read a b v, rfl, fun k hk => ?_⟩
  rw [State.write_cell, if_neg hk]

/-- Settles O22: the two bytes of a word access, and the round trip of `State.write16_read16`. -/
theorem wordAccessIsLittleEndianAndWraps : Obligations.WordAccessIsLittleEndianAndWraps := by
  intro s a w
  rw [← addr_succ_eq_ofNat, ← lowByte_eq_ofNat, ← highByte_eq_ofNat]
  refine ⟨?_, rfl, s.write16_read16 a w⟩
  rw [State.read16, concat_toNat, Nat.mul_comm]

end Sys2Proof.Proofs

/-! ### What the host operations keep

A property of states that `step()` keeps holds after any run; a property of memory that every bus write keeps holds
after every host operation. -/

namespace Sys2Proof.Machine

/-- The induction over the steps of `run_for(n)` (`40_dispatch.md` R109). -/
theorem runFor_state_of {par : Params} {P : State → Prop} (hstep : ∀ u, P u → P (stepIn par u).2) {s : State}
    (h : P s) (n : Nat) : P (runFor par n s).state := by
  induction n generalizing s with
  | zero => exact h
  | succ n ih =>
    have h1 := hstep s h
    by_cases hstop : ∃ why, (stepIn par s).1 = .stopped why
    · obtain ⟨why, hwhy⟩ := hstop
      rw [runFor_succ_of_stopped (Prod.ext hwhy rfl)]
      exact h1
    · rw [runFor_succ_of_next (not_exists.1 hstop)]
      exact ih h1

section
variable {Q : Memory → Prop} (hQ : ∀ m a v, Q m → Q (m.store (resolve a).toNat v))
include hQ

theorem runFor_mem_of (par : Params) (n : Nat) {s : State} (h : Q s.mem) : Q (runFor par n s).state.mem :=
  runFor_state_of (P := fun u => Q u.mem) (fun _ hu => stepIn_mem_of hQ par hu) h n

theorem load_mem_of (par : Params) (image : List Byte) {s : State} (h : Q s.mem) : Q (load par image s).2.mem := by
  unfold load
  split
  · exact h
  · exact State.placeBank_mem_of hQ h _ _

theorem inject_mem_of (par : Params) (bytes : List Byte) {s : State} (h : Q s.mem) : Q (inject par bytes s).2.mem := by
  unfold inject
  split
  · exact h
  · exact stepIn_mem_of hQ par (s := (s.writeBytes s.pc bytes).setPending 0) (State.writeBytes_mem_of hQ h _ _)

theorem step_next_mem_of {s t : State} (ht : step s = .next t) (h : Q s.mem) : Q t.mem := by
  rw [← step_next_eq ht, ← stepIn_default]
  exact stepIn_mem_of hQ _ h

end

end Sys2Proof.Machine

namespace Sys2Proof.Proofs

open Sys2Proof.Machine

/-- Settles O23: no bus write reaches a shadow cell, and memory changes through the bus alone. -/
theorem shadowCellsAreNeverTouched : Obligations.ShadowCellsAreNeverTouched := by
  intro par s k hk
  have hQ : ∀ (m : Memory) a v, m.cell k = s.mem.cell k → (m.store (resolve a).toNat v).cell k = s.mem.cell k := by
    intro m a v hm
    have hne : k ≠ (resolve a).toNat := fun e => not_shadowCell_resolve a (e ▸ hk)
    rw [Memory.cell_store_other m v hne, hm]
  exact ⟨fun _ ht => step_next_mem_of hQ ht rfl, fun n => runFor_mem_of hQ par n rfl,
    fun image => load_mem_of hQ par image rfl, fun bytes => inject_mem_of hQ par bytes rfl,
    fun a v => hQ s.mem a v rfl⟩

end Sys2Proof.Proofs

/-! ### The encoding of an instruction (`30_encoding.md` R80, R81) -/

namespace Sys2Proof.Machine

/-- A three byte instruction carries its address low byte first (R85). -/
theorem decode_withWord {op : Byte} {f : Addr → Instr} {rest : List Byte}
    (h : ∀ lo hi, decode (op :: lo :: hi :: rest) = .ok (f (concat hi lo), rest)) (w : Addr) :
    decode (withWord op w ++ rest) = .ok (f w, rest) := by
  rw [← congrArg f (concat_highByte_lowByte w)]
  exact h (lowByte w) (highByte w)

/-- The decoder inverts the encoder and leaves the bytes after the instruction. Without an address operand both
compute; with one the word is taken apart and put together again. -/
theorem decode_encode (i : Instr) (rest : List Byte) : decode (encode i ++ rest) = .ok (i, rest) := by
  cases i with
  | ldaAbs | ldaAbsX | ldaAbsY | ldxAbs | ldxAbsY | ldyAbs | ldyAbsX | staAbs | staAbsX | staAbsY | stxAbs | styAbs
  | adcAbs | adcAbsX | adcAbsY | sbcAbs | sbcAbsX | sbcAbsY | cmpAbs | cmpAbsX | cmpAbsY | cpxAbs | cpyAbs | incAbs
  | incAbsX | decAbs | decAbsX | andAbs | andAbsX | andAbsY | oraAbs | oraAbsX | oraAbsY | eorAbs | eorAbsX | eorAbsY
  | bitAbs | aslAbs | aslAbsX | lsrAbs | lsrAbsX | rolAbs | rolAbsX | rorAbs | rorAbsX | jmpAbs | jmpInd | jsr =>
    exact decode_withWord (fun _ _ => rfl) _
  | tax | tay | txa | tya | tsx | txs | pha | php | pla | plp | inx | iny | dex | dey | aslAcc | lsrAcc | rolAcc
  | rorAcc | rts | clc | sec | cli | sei | cld | sed | clv | nop | rti | brk
  | ldaImm | ldaZp | ldaZpX | ldaIndX | ldaIndY | ldxImm | ldxZp | ldxZpY | ldyImm | ldyZp | ldyZpX | staZp | staZpX
  | staIndX | staIndY | stxZp | stxZpY | styZp | styZpX | adcImm | adcZp | adcZpX | adcIndX | adcIndY | sbcImm
  | sbcZp | sbcZpX | sbcIndX | sbcIndY | cmpImm | cmpZp | cmpZpX | cmpIndX | cmpIndY | cpxImm | cpxZp | cpyImm
  | cpyZp | incZp | incZpX | decZp | decZpX | andImm | andZp | andZpX | andIndX | andIndY | oraImm | oraZp | oraZpX
  | oraIndX | oraIndY | eorImm | eorZp | eorZpX | eorIndX | eorIndY | bitZp | aslZp | aslZpX | lsrZp | lsrZpX | rolZp
  | rolZpX | rorZp | rorZpX | bcc | bcs | beq | bne | bmi | bpl | bvc | bvs => rfl

theorem encode_length_le (i : Instr) : (encode i).length ≤ maxLength := by
  cases i <;> simp [encode, withWord, maxLength]

/-! ### Bytes placed through the bus and read back (R54, R71) -/

theorem addr_add_ofNat_succ (a : Addr) (n : Nat) : a + BitVec.ofNat 16 (n + 1) = a + 1 + BitVec.ofNat 16 n := by
  rw [Nat.add_comm, BitVec.ofNat_add, BitVec.add_assoc]
  rfl

/-- Bytes placed at cells other than that of `b` leave what `b` reads. -/
theorem State.writeBytes_read_other {s : State} {a b : Addr} {bs : List Byte}
    (h : ∀ n < bs.length, resolve b ≠ resolve (a + BitVec.ofNat 16 n)) : (s.writeBytes a bs).read b = s.read b := by
  induction bs generalizing s a with
  | nil => rfl
  | cons v rest ih =>
    have hrest : ∀ n < rest.length, resolve b ≠ resolve (a + 1 + BitVec.ofNat 16 n) := fun n hn =>
      addr_add_ofNat_succ a n ▸ h (n + 1) (Nat.succ_lt_succ hn)
    have hhead : resolve a ≠ resolve b := by simpa using (h 0 (Nat.succ_pos _)).symm
    rw [State.writeBytes, ih hrest, State.write_read_other hhead]

/-- As many bytes as no mirror folds onto each other read back as they were placed. -/
theorem State.readBytes_writeBytes {s : State} {a : Addr} {bs : List Byte} (h : bs.length ≤ 8) :
    (s.writeBytes a bs).readBytes a bs.length = bs := by
  induction bs generalizing s a with
  | nil => rfl
  | cons v rest ih =>
    rw [List.length_cons] at h
    have hhead : ((s.write a v).writeBytes (a + 1) rest).read a = v := by
      refine (State.writeBytes_read_other fun n hn => ?_).trans (s.write_read_same a v)
      rw [← addr_add_ofNat_succ]
      exact resolve_add_ne a (Nat.succ_pos n) (by omega)
    rw [State.writeBytes, List.length_cons, State.readBytes, hhead, ih (by omega)]

theorem State.readBytes_add (s : State) (a : Addr) (m n : Nat) :
    s.readBytes a (m + n) = s.readBytes a m ++ s.readBytes (a + BitVec.ofNat 16 m) n := by
  induction m generalizing a with
  | zero => simp [State.readBytes]
  | succ m ih => rw [Nat.succ_add, State.readBytes, ih, addr_add_ofNat_succ]; rfl

/-- The bytes fetched after an instruction is placed at PC begin with its encoding. -/
theorem State.fetchBytes_writeBytes_encode (s : State) (i : Instr) :
    ∃ rest, (s.writeBytes s.pc (encode i)).fetchBytes = encode i ++ rest := by
  obtain ⟨n, hn⟩ := Nat.exists_eq_add_of_le (encode_length_le i)
  have hle : (encode i).length ≤ 8 := (encode_length_le i).trans (by decide)
  have hfetch : (s.writeBytes s.pc (encode i)).fetchBytes =
      (s.writeBytes s.pc (encode i)).readBytes s.pc ((encode i).length + n) := by
    rw [State.fetchBytes, State.writeBytes_pc, hn]
  rw [hfetch, State.readBytes_add, State.readBytes_writeBytes hle]
  exact ⟨_, rfl⟩

/-! ### A Fetch step of the default core (`40_dispatch.md` R101, R113) -/

theorem fetch_of_decode {par : Params} {s : State} {i : Instr} {rest : List Byte}
    (h : decode s.fetchBytes = .ok (i, rest)) (hi : i.wellFormed par = true) : fetch par s = .ok i := by
  simp only [fetch, h, hi, if_true]

theorem step_of_fetch {s : State} {i : Instr} (hrun : s.run = .running) (hp : s.pending = 0)
    (h : fetch Config.params s = .ok i) : step s = exec i s := by
  simp only [step, stepCall, stepCallWith, hrun, hp, if_true, fetchStep, h]
  cases exec i s <;> rfl

end Sys2Proof.Machine

namespace Sys2Proof.Proofs

open Sys2Proof.Machine

/-- Settles O10: what is placed reads back across the mirrors and the wrap, decodes to the instruction, and is run. -/
theorem placedInstructionIsStepped : Obligations.PlacedInstructionIsStepped := by
  intro s i u
  obtain ⟨rest, hbytes⟩ := s.fetchBytes_writeBytes_encode i
  have hu : u.fetchBytes = encode i ++ rest := hbytes
  have hdecode : decode u.fetchBytes = .ok (i, rest) := by rw [hu, decode_encode]
  exact step_of_fetch rfl rfl (fetch_of_decode hdecode rfl)

end Sys2Proof.Proofs

/-! ### Cartridge images (`20_memory.md` R64) -/

namespace Sys2Proof.Machine

open Sys2Proof.Stmt

/-- A slice of a list, byte by byte. -/
theorem take_drop_eq_map_getD {l : List Byte} {i n : Nat} (h : i + n ≤ l.length) :
    (l.drop i).take n = (List.range n).map fun k => l.getD (i + k) 0 := by
  refine List.ext_getElem (by simp; omega) fun k hk _ => ?_
  have hlt : i + k < l.length := by simp at hk; omega
  simp [List.getD_eq_getElem?_getD, hlt]

theorem signature_eq_iff {image : List Byte} (h : 16 ≤ image.length) :
    image.take 3 = [0x4E, 0x45, 0x53] ↔ ¬failsCheck image .badSignature := by
  have hslice := take_drop_eq_map_getD (l := image) (i := 0) (n := 3) (by omega)
  rw [List.drop_zero] at hslice
  rw [hslice, failsCheck, not_not]
  simp [List.range_succ]

theorem reserved_eq_iff {image : List Byte} (h : 16 ≤ image.length) :
    (image.drop 9).take 7 = [0, 0, 0, 0, 0, 0, 0] ↔ ¬failsCheck image .reservedNonZero := by
  have hzeros : ([0, 0, 0, 0, 0, 0, 0] : List Byte) = (List.range 7).map fun _ => 0 := rfl
  rw [take_drop_eq_map_getD (by omega), hzeros, List.map_inj_left, failsCheck]
  constructor
  · rintro hz ⟨k, hlo, hhi, hne⟩
    have hk := hz (k - 9) (List.mem_range.2 (by omega))
    rw [Nat.add_sub_cancel' hlo] at hk
    exact hne hk
  · intro hz k hk
    have hk := List.mem_range.1 hk
    exact not_not.1 fun hne => hz ⟨9 + k, by omega, by omega, hne⟩

theorem trainer_iff (image : List Byte) :
    (imageByte image 6).getLsbD 2 = true ↔ failsCheck image .unsupportedTrainer := by
  rw [getLsbD_eq_decide, decide_eq_true_iff]
  rfl

theorem mapperOf_toNat (image : List Byte) :
    (mapperOf image).toNat = (image.getD 7 0).toNat / 16 * 16 + (image.getD 6 0).toNat / 16 := by
  have hhi := (imageByte image 7).isLt
  have hlo := (imageByte image 6).isLt
  have hhigh : (imageByte image 7).toNat / 16 * 16 < 2 ^ 8 := by omega
  have hnibble : (imageByte image 6).toNat / 16 < 2 ^ 4 := by omega
  have hor := Nat.shiftLeft_add_eq_or_of_lt hnibble ((imageByte image 7).toNat / 16)
  rw [Nat.shiftLeft_eq] at hor
  simp only [mapperOf, BitVec.toNat_or, BitVec.toNat_shiftLeft, BitVec.toNat_ushiftRight, Nat.shiftRight_eq_div_pow,
    Nat.shiftLeft_eq]
  rw [Nat.mod_eq_of_lt hhigh]
  exact hor.symm

theorem mapper_eq_iff (image : List Byte) : mapperOf image = 0 ↔ ¬failsCheck image .unsupportedMapper := by
  rw [failsCheck, not_not, ← mapperOf_toNat]
  exact BitVec.toNat_inj.symm

/-- The checks numbered below `n` are met. -/
def PassesBefore (image : List Byte) (n : Nat) : Prop := ∀ r, checkNumber r < n → ¬failsCheck image r

/-- `r` is the reason of the first check that fails. -/
def FirstFailure (image : List Byte) (r : MalformedReason) : Prop :=
  failsCheck image r ∧ PassesBefore image (checkNumber r)

/-- The reasons in the order of their checks. -/
def checkOrder : List MalformedReason :=
  [.truncatedHeader, .badSignature, .badFormatTag, .reservedNonZero, .unsupportedTrainer, .unsupportedMapper,
    .unsupportedBankCount, .truncatedProgramData]

theorem checkOrder_checkNumber (r : MalformedReason) : checkOrder[checkNumber r - 1]? = some r := by cases r <;> rfl

theorem checkNumber_inj {r r' : MalformedReason} (h : checkNumber r = checkNumber r') : r = r' :=
  Option.some.inj (by rw [← checkOrder_checkNumber r, h, checkOrder_checkNumber r'])

theorem checkNumber_pos (r : MalformedReason) : 1 ≤ checkNumber r := by cases r <;> decide

theorem checkNumber_le (r : MalformedReason) : checkNumber r ≤ 8 := by cases r <;> decide

/-- One check more. -/
theorem PassesBefore.succ {image : List Byte} {r : MalformedReason} (h : PassesBefore image (checkNumber r))
    (hr : ¬failsCheck image r) : PassesBefore image (checkNumber r + 1) := by
  intro r' hlt
  rcases Nat.lt_succ_iff_lt_or_eq.1 hlt with hlt | heq
  · exact h r' hlt
  · exact checkNumber_inj heq ▸ hr

theorem FirstFailure.unique {image : List Byte} {r r' : MalformedReason} (h : FirstFailure image r)
    (h' : FirstFailure image r') : r = r' :=
  checkNumber_inj (Nat.le_antisymm (not_lt.1 fun hlt => h.2 r' hlt h'.1) (not_lt.1 fun hlt => h'.2 r hlt h.1))

/-- The checks in the order of R64: what `imageProblem` answers is the first failure, or there is none. -/
theorem imageProblem_spec (image : List Byte) :
    (∃ r, imageProblem image = some r ∧ FirstFailure image r) ∨
      (imageProblem image = none ∧ ∀ r, ¬failsCheck image r) := by
  have h1 : PassesBefore image 1 := fun r hr => absurd (checkNumber_pos r) (by omega)
  unfold imageProblem
  split
  case isTrue hc => exact .inl ⟨.truncatedHeader, rfl, hc, h1⟩
  case isFalse hc =>
  have hlen : 16 ≤ image.length := not_lt.1 hc
  have h2 := h1.succ (r := .truncatedHeader) hc
  split
  case isTrue hc => exact .inl ⟨.badSignature, rfl, not_not.1 fun hp => hc ((signature_eq_iff hlen).2 hp), h2⟩
  case isFalse hc =>
  have h3 := h2.succ (r := .badSignature) ((signature_eq_iff hlen).1 (not_not.1 hc))
  split
  case isTrue hc => exact .inl ⟨.badFormatTag, rfl, hc, h3⟩
  case isFalse hc =>
  have h4 := h3.succ (r := .badFormatTag) hc
  split
  case isTrue hc => exact .inl ⟨.reservedNonZero, rfl, not_not.1 fun hp => hc ((reserved_eq_iff hlen).2 hp), h4⟩
  case isFalse hc =>
  have h5 := h4.succ (r := .reservedNonZero) ((reserved_eq_iff hlen).1 (not_not.1 hc))
  split
  case isTrue hc => exact .inl ⟨.unsupportedTrainer, rfl, (trainer_iff image).1 hc, h5⟩
  case isFalse hc =>
  have h6 := h5.succ (r := .unsupportedTrainer) fun hf => hc ((trainer_iff image).2 hf)
  split
  case isTrue hc => exact .inl ⟨.unsupportedMapper, rfl, not_not.1 fun hp => hc ((mapper_eq_iff image).2 hp), h6⟩
  case isFalse hc =>
  have h7 := h6.succ (r := .unsupportedMapper) ((mapper_eq_iff image).1 (not_not.1 hc))
  split
  case isTrue hc => exact .inl ⟨.unsupportedBankCount, rfl, hc, h7⟩
  case isFalse hc =>
  have h8 := h7.succ (r := .unsupportedBankCount) hc
  split
  case isTrue hc => exact .inl ⟨.truncatedProgramData, rfl, hc, h8⟩
  case isFalse hc =>
  have h9 := h8.succ (r := .truncatedProgramData) hc
  exact .inr ⟨rfl, fun r => h9 r (Nat.lt_succ_of_le (checkNumber_le r))⟩

/-! ### Bank placement (R63, R65) -/

/-- A write from 0x4000 on is seen at its own address alone. -/
theorem State.write_read_of_high (s : State) {a : Addr} (ha : 0x4000 ≤ a.toNat) (b : Addr) (v : Byte) :
    (s.write a v).read b = if a = b then v else s.read b := by
  simp only [State.write_read, resolve_eq_iff_of_high ha]

/-- One byte of the bank, at offset `o` of both windows, and then the rest of it. -/
theorem State.placeBank_cons (s : State) (o : Nat) (v : Byte) (bs : List Byte) :
    s.placeBank (BitVec.ofNat 16 o) (v :: bs) =
      ((s.write (BitVec.ofNat 16 (0x8000 + o)) v).write (BitVec.ofNat 16 (0xC000 + o)) v).placeBank
        (BitVec.ofNat 16 (o + 1)) bs := by
  simp only [BitVec.ofNat_add]
  rfl

/-- Placement changes memory alone. -/
theorem State.placeBank_eq (s : State) (o : Addr) (bs : List Byte) :
    s.placeBank o bs = { s with mem := (s.placeBank o bs).mem } := by
  induction bs generalizing s o with
  | nil => rfl
  | cons v bs ih => rw [State.placeBank, ih]; rfl

theorem windowAddr_toNat {base o : Nat} (h : base + o < 65536) : (BitVec.ofNat 16 (base + o)).toNat = base + o := by
  rw [BitVec.toNat_ofNat, Nat.mod_eq_of_lt h]

theorem windowAddr_eq_iff {base o : Nat} (h : base + o < 65536) (b : Addr) :
    BitVec.ofNat 16 (base + o) = b ↔ b.toNat = base + o := by
  rw [← BitVec.toNat_inj, windowAddr_toNat h, eq_comm]

/-- The windows are independent cells (D12): no address is in both. -/
theorem lowerWindow_ne_upperWindow {o o' : Nat} (h : o < bankLength) (h' : o' < bankLength) :
    BitVec.ofNat 16 (0x8000 + o) ≠ BitVec.ofNat 16 (0xC000 + o') := by
  rw [bankLength] at h h'
  rw [Ne, windowAddr_eq_iff (by omega), windowAddr_toNat (by omega)]
  omega

/-- What a read sees after one byte is written at offset `o` of both windows. -/
theorem State.write_windows_read (s : State) {o : Nat} (ho : o < bankLength) (v : Byte) (b : Addr) :
    ((s.write (BitVec.ofNat 16 (0x8000 + o)) v).write (BitVec.ofNat 16 (0xC000 + o)) v).read b =
      if b.toNat = 0x8000 + o ∨ b.toNat = 0xC000 + o then v else s.read b := by
  rw [bankLength] at ho
  have hlow := windowAddr_toNat (base := 0x8000) (o := o) (by omega)
  have hhigh := windowAddr_toNat (base := 0xC000) (o := o) (by omega)
  rw [State.write_read_of_high _ (by omega), State.write_read_of_high _ (by omega)]
  simp only [windowAddr_eq_iff (base := 0x8000) (o := o) (by omega),
    windowAddr_eq_iff (base := 0xC000) (o := o) (by omega), ite_or]
  split_ifs <;> rfl

/-- The address is outside the part of both windows that `n` bytes from offset `o` fill. -/
def OutsidePlaced (b : Addr) (o n : Nat) : Prop :=
  ∀ j, o ≤ j → j < o + n → b.toNat ≠ 0x8000 + j ∧ b.toNat ≠ 0xC000 + j

/-- Every address outside the placed bytes reads as before. -/
theorem State.placeBank_read_other {s : State} {b : Addr} {o : Nat} {bs : List Byte}
    (hfit : o + bs.length ≤ bankLength) (hb : OutsidePlaced b o bs.length) :
    (s.placeBank (BitVec.ofNat 16 o) bs).read b = s.read b := by
  induction bs generalizing s o with
  | nil => rfl
  | cons v bs ih =>
    rw [List.length_cons] at hfit hb
    have hrest : OutsidePlaced b (o + 1) bs.length := fun j hlo hhi => hb j (by omega) (by omega)
    have hhead := not_or.2 (hb o le_rfl (by omega))
    rw [State.placeBank_cons, ih (by omega) hrest, State.write_windows_read s (by omega), if_neg hhead]

/-- Both windows hold the placed bytes. -/
theorem State.placeBank_read {s : State} {o k : Nat} {bs : List Byte} (hfit : o + bs.length ≤ bankLength)
    (hk : k < bs.length) {b : Addr} (hb : b.toNat = 0x8000 + (o + k) ∨ b.toNat = 0xC000 + (o + k)) :
    (s.placeBank (BitVec.ofNat 16 o) bs).read b = bs.getD k 0 := by
  induction bs generalizing s o k with
  | nil => exact absurd hk (Nat.not_lt_zero k)
  | cons v bs ih =>
    rw [List.length_cons] at hfit hk
    rw [State.placeBank_cons]
    cases k with
    | zero =>
      rw [bankLength] at hfit
      rw [Nat.add_zero] at hb
      have hrest : OutsidePlaced b (o + 1) bs.length := fun j hlo hhi => by omega
      rw [State.placeBank_read_other (by rw [bankLength]; omega) hrest,
        State.write_windows_read s (by rw [bankLength]; omega), if_pos hb]
      rfl
    | succ k => exact ih (by omega) (by omega) (by omega)

theorem programBank_length {image : List Byte} (h : headerLength + bankLength ≤ image.length) :
    (programBank image).length = bankLength := by
  rw [programBank, List.length_take, List.length_drop]
  omega

theorem programBank_getD (image : List Byte) {k : Nat} (hk : k < bankLength) :
    (programBank image).getD k 0 = image.getD (headerLength + k) 0 := by
  simp only [programBank, List.getD_eq_getElem?_getD, List.getElem?_take_of_lt hk, List.getElem?_drop]

/-- An image that fails no check holds a whole bank. -/
theorem bank_le_length {image : List Byte} (h : ∀ r, ¬failsCheck image r) :
    headerLength + bankLength ≤ image.length := by
  have hcount : image.getD 4 0 = 1 := not_not.1 (h .unsupportedBankCount)
  have hlen := not_lt.1 (h .truncatedProgramData)
  rw [hcount] at hlen
  exact hlen

/-- A byte of the bank in either window after placement. -/
theorem State.placeBank_programBank_read (s : State) {image : List Byte}
    (hlen : headerLength + bankLength ≤ image.length) {k : Nat} (hk : k < bankLength) {b : Addr}
    (hb : b.toNat = 0x8000 + k ∨ b.toNat = 0xC000 + k) :
    (s.placeBank 0 (programBank image)).read b = image.getD (headerLength + k) 0 := by
  have hbank := programBank_length hlen
  rw [← programBank_getD image hk]
  refine State.placeBank_read (o := 0) (by omega) (by omega) ?_
  rwa [Nat.zero_add]

/-! ### `load` (R64, R65, `70_reset_and_hazards.md` R332) -/

theorem load_of_problem {par : Params} {image : List Byte} {r : MalformedReason} (h : imageProblem image = some r)
    (s : State) : load par image s = (some (.malformedCartridge r), s) := by
  simp only [load, h]

theorem imageProblem_eq_none_iff (image : List Byte) : imageProblem image = none ↔ ∀ r, ¬failsCheck image r := by
  rcases imageProblem_spec image with ⟨r, hr, hfails, _⟩ | ⟨hnone, hpass⟩
  · simp only [hr, reduceCtorEq, false_iff, not_forall, not_not]
    exact ⟨r, hfails⟩
  · exact iff_of_true hnone hpass

theorem load_of_failsCheck {par : Params} {image : List Byte} {r : MalformedReason} (h : failsCheck image r)
    (s : State) : (load par image s).2 = s := by
  rcases imageProblem_spec image with ⟨r', hr, _⟩ | ⟨_, hpass⟩
  · rw [load_of_problem hr]
  · exact absurd h (hpass r)

theorem load_of_none {par : Params} {image : List Byte} (h : imageProblem image = none) (s : State) :
    load par image s = (none, hostReset par (s.placeBank 0 (programBank image))) := by
  simp only [load, h]

end Sys2Proof.Machine

namespace Sys2Proof.Proofs

open Sys2Proof.Machine Sys2Proof.Stmt

/-- Settles O24: `load` raises the first failure of `imageProblem_spec`, and there is at most one. -/
theorem loadRefusesByTheFirstFailingCheck : Obligations.LoadRefusesByTheFirstFailingCheck := by
  intro par image s
  rcases imageProblem_spec image with ⟨r, hr, hfirst⟩ | ⟨hnone, hpass⟩
  · rw [load_of_problem hr]
    refine ⟨fun reason => ⟨fun h => ?_, fun h => ?_⟩, fun f hf => ⟨rfl, r, (Option.some.inj hf).symm⟩⟩
    · cases h
      exact hfirst
    · rw [hfirst.unique h]
  · rw [load_of_none hnone]
    exact ⟨fun reason => ⟨fun h => (nomatch h), fun h => absurd h.1 (hpass reason)⟩, fun f hf => nomatch hf⟩

/-- Settles O25: the bank placed at both windows, and the reset that reads its vector there. -/
theorem loadPlacesTheBankTwice : Obligations.LoadPlacesTheBankTwice := by
  intro par image s
  refine ⟨fun hpass => ?_, fun r hr => load_of_failsCheck hr s, fun k v hk => ?_⟩
  · rw [load_of_none ((imageProblem_eq_none_iff image).2 hpass)]
    have hlen := bank_le_length hpass
    refine ⟨rfl, fun k hk => ⟨?_, ?_⟩, fun b hb => ?_, ?_⟩
    · exact s.placeBank_programBank_read hlen hk (.inl (windowAddr_toNat (by omega)))
    · exact s.placeBank_programBank_read hlen hk (.inr (windowAddr_toNat (by omega)))
    · refine State.placeBank_read_other (o := 0) (by rw [programBank_length hlen, Nat.zero_add]) fun j _ _ => ?_
      omega
    · have hhi := s.placeBank_programBank_read hlen (k := 0x3FFD) (b := 0xFFFC + 1) (by decide) (.inr rfl)
      have hlo := s.placeBank_programBank_read hlen (k := 0x3FFC) (b := 0xFFFC) (by decide) (.inr rfl)
      rw [hostReset, State.resetOp, State.read16, resetVector, hhi, hlo, State.placeBank_eq]
      rfl
  · rw [State.write_read_of_high s (by rw [windowAddr_toNat] <;> omega), if_neg (lowerWindow_ne_upperWindow hk hk)]

end Sys2Proof.Proofs
end

section
/-! PROOFS of the family `30_encoding.md`: the decoder and the encoder invert each other, and the opcode map leaves out
exactly the values of R87. -/

namespace Sys2Proof

open Sys2Proof.Machine Sys2Proof.Stmt

/-! ### The opcode map agrees with the encoder (`30_encoding.md` R81, R86) -/

/-- What the opcode's format reads is what the encoder writes after it. The encoder does not fix the padding byte. -/
def Format.Encodes (op : Byte) : Format → Prop
  | .implied i => encode i = [op]
  | .padded i => op = 0x00 ∧ i = .brk
  | .byte f => encode ∘ f = fun b => [op, b]
  | .word f => encode ∘ f = withWord op

theorem Format.Encodes.byte {op : Byte} {f : Byte → Instr} (h : (Format.byte f).Encodes op) (b : Byte) :
    encode (f b) = [op, b] := congrFun h b

theorem Format.Encodes.word {op : Byte} {f : Addr → Instr} (h : (Format.word f).Encodes op) (w : Addr) :
    encode (f w) = withWord op w := congrFun h w

/-- Each of the 151 cells is one equation by computation; the cell of BRK is two. -/
theorem opcodeTable_encodes : ∀ r ∈ opcodeTable, r.format.Encodes r.opcode := by
  refine List.forall_iff_forall_mem.1 ?_
  repeat' apply And.intro
  all_goals rfl

theorem formatIn_eq_some {rows : List OpcodeRow} {op : Byte} {f : Format} (h : formatIn rows op = some f) :
    ∃ r ∈ rows, r.opcode = op ∧ r.format = f := by
  induction rows with
  | nil => cases h
  | cons r rows ih =>
    rw [formatIn] at h
    split at h
    case isTrue hop => exact ⟨r, .head _, hop, Option.some.inj h⟩
    case isFalse =>
      obtain ⟨r', hmem, hr'⟩ := ih h
      exact ⟨r', .tail _ hmem, hr'⟩

theorem formatIn_eq_none_iff (rows : List OpcodeRow) (op : Byte) :
    formatIn rows op = none ↔ op ∉ rows.map OpcodeRow.opcode := by
  induction rows with
  | nil => simp [formatIn]
  | cons r rows ih =>
    rw [formatIn]
    split
    case isTrue hop => simp [hop]
    case isFalse hop => simp [ih, Ne.symm hop]

theorem formatOf_encodes {op : Byte} {f : Format} (h : formatOf op = some f) : f.Encodes op := by
  obtain ⟨r, hmem, rfl, rfl⟩ := formatIn_eq_some h
  exact opcodeTable_encodes r hmem

/-! ### The values outside the map (R87) -/

/-- Striking R87's values out of 0 to 255 leaves the opcodes of the map, in its order. On numbers, where comparing is
cheap. -/
theorem range_filter_undocumented :
    (List.range 256).filter (· ∉ undocumented.map BitVec.toNat) = opcodeTable.map (·.opcode.toNat) := by
  decide +kernel

theorem mem_opcodes_iff (op : Byte) : op ∈ opcodeTable.map OpcodeRow.opcode ↔ op ∉ undocumented := by
  have hnum : op.toNat ∈ opcodeTable.map (·.opcode.toNat) ↔ op.toNat ∉ undocumented.map BitVec.toNat := by
    simp only [← range_filter_undocumented, List.mem_filter, List.mem_range, op.isLt, true_and, decide_eq_true_eq]
  simpa only [List.mem_map, BitVec.toNat_inj, exists_eq_right] using hnum

theorem formatOf_eq_none_iff (op : Byte) : formatOf op = none ↔ op ∈ undocumented := by
  rw [formatOf, formatIn_eq_none_iff, mem_opcodes_iff, not_not]

/-! ### What the decoder reads -/

theorem decode_of_formatOf {op : Byte} {f : Format} (h : formatOf op = some f) (rest : List Byte) :
    decode (op :: rest) = f.read op rest := by
  simp only [decode, h]

theorem decode_of_formatOf_none {op : Byte} (h : formatOf op = none) (rest : List Byte) :
    decode (op :: rest) = .error (.undocumentedOpcode op) := by
  simp only [decode, h]

/-- A decoded list begins with an opcode of the map, and its operand bytes are read by that opcode's format. -/
theorem decode_eq_ok {bytes : List Byte} {i : Instr} {rest : List Byte} (h : decode bytes = .ok (i, rest)) :
    ∃ op tail f, bytes = op :: tail ∧ formatOf op = some f ∧ f.read op tail = .ok (i, rest) := by
  cases bytes with
  | nil => cases h
  | cons op tail =>
    cases hf : formatOf op with
    | none => rw [decode_of_formatOf_none hf] at h; cases h
    | some f => exact ⟨op, tail, f, rfl, hf, decode_of_formatOf hf tail ▸ h⟩

/-- Reading operand bytes undoes the encoder, but for the padding byte. -/
theorem Format.read_eq_ok {op : Byte} {f : Format} (hf : f.Encodes op) {tail : List Byte} {i : Instr}
    {rest : List Byte} (h : f.read op tail = .ok (i, rest)) :
    op :: tail = encode i ++ rest ∨ i = .brk ∧ op = 0x00 ∧ rest = tail.drop 1 := by
  match f, tail with
  | .implied _, _ => cases h; exact .inl (by rw [hf]; rfl)
  | .padded _, _ => cases h; exact .inr ⟨hf.2, hf.1, rfl⟩
  | .byte _, [] => cases h
  | .byte _, b :: _ => cases h; exact .inl (by rw [hf.byte]; rfl)
  | .word _, [] => cases h
  | .word _, [_] => cases h
  | .word _, lo :: hi :: _ =>
    cases h
    exact .inl (by rw [hf.word, withWord, lowByte_concat, highByte_concat]; rfl)

/-- A format only ever rejects a list for its length. -/
theorem Format.read_ne_undocumented (op : Byte) (f : Format) (tail : List Byte) :
    f.read op tail ≠ .error (.undocumentedOpcode op) := by
  match f, tail with
  | .implied _, _ | .padded _, _ | .byte _, [] | .byte _, _ :: _ | .word _, [] | .word _, [_] | .word _, _ :: _ :: _ =>
    exact nofun

theorem decode_eq_undocumented_iff (op : Byte) (rest : List Byte) :
    decode (op :: rest) = .error (.undocumentedOpcode op) ↔ formatOf op = none := by
  cases hf : formatOf op with
  | none => simp only [decode_of_formatOf_none hf]
  | some f => simp [decode_of_formatOf hf, f.read_ne_undocumented]

/-- Two bytes are operand enough for every format (R81). -/
theorem Format.read_two {op : Byte} {f : Format} (hf : f.Encodes op) (b1 b2 : Byte) :
    ∃ i rest, f.read op [b1, b2] = .ok (i, rest) ∧ i.opcode = op := by
  cases f with
  | implied i => exact ⟨i, _, rfl, by rw [Instr.opcode, hf]; rfl⟩
  | padded i => exact ⟨i, _, rfl, by rw [hf.1, hf.2]; rfl⟩
  | byte g => exact ⟨g b1, _, rfl, by rw [Instr.opcode, hf.byte]; rfl⟩
  | word g => exact ⟨g (concat b2 b1), _, rfl, by rw [Instr.opcode, hf.word]; rfl⟩

/-- A table word whose bytes begin with an instruction's encoding decodes to that instruction. -/
theorem decodeTableWord_of_encode {nbits w : Nat} {i : Instr} {rest : List Byte}
    (h : tableBytes nbits w = encode i ++ rest) : decodeTableWord nbits w = some i := by
  rw [decodeTableWord, h, decode_encode]

end Sys2Proof

namespace Sys2Proof.Proofs

open Sys2Proof.Machine Sys2Proof.Stmt

/-- Settles O5: `decode_encode`, instruction by instruction, with the address operands put together again. -/
theorem decodeInvertsEncode : Obligations.DecodeInvertsEncode := decode_encode

/-- Settles O6: for BRK the first form gives the second, with 0x00 for the padding byte. -/
theorem decodedBytesAreTheEncoding : Obligations.DecodedBytesAreTheEncoding := by
  intro bytes i rest h
  obtain ⟨op, tail, f, rfl, hf, hread⟩ := decode_eq_ok h
  rcases Format.read_eq_ok (formatOf_encodes hf) hread with henc | ⟨hbrk, hop, hdrop⟩
  · refine ⟨fun _ => henc, ?_⟩
    rintro rfl
    exact ⟨0x00 :: rest, henc, rfl⟩
  · exact ⟨fun hne => absurd hbrk hne, fun _ => ⟨tail, by rw [hop], hdrop⟩⟩

/-- Settles O7: the decoder rejects what the map leaves out, and R87 lists it. -/
theorem undocumentedOpcodesDoNotDecode : Obligations.UndocumentedOpcodesDoNotDecode := by
  refine ⟨fun op rest => ?_, fun op b1 b2 hop => ?_, rfl⟩
  · rw [decode_eq_undocumented_iff, formatOf_eq_none_iff]
  · obtain ⟨f, hf⟩ := Option.ne_none_iff_exists'.1 (mt (formatOf_eq_none_iff op).1 hop)
    rw [decode_of_formatOf hf]
    exact Format.read_two (formatOf_encodes hf) b1 b2

/-- Settles O8: nine of the words are the encodings; BRK's carries another padding byte than the encoder's. -/
theorem sampleWordsDecode : Obligations.SampleWordsDecode := by
  refine ⟨?_, ?_, ?_, ?_, ?_, ?_, ?_, ?_, ?_, rfl⟩ <;> exact decodeTableWord_of_encode rfl

end Sys2Proof.Proofs
end

section
/-! PROOFS of the family `40_dispatch.md`: what `step()` does in each state of the dispatch machine, what an
instruction costs, and `inject` and `run_for` on top of it. -/

/-! ### One step, by the state of the dispatch machine (`40_dispatch.md` R101 to R107) -/

namespace Sys2Proof.Machine

open Sys2Proof.Stmt

section
variable {par : Params} {s : State}

theorem step_eq_stepIn (s : State) : step s = outcomeOf (stepIn Config.params s) := by
  rw [stepIn_default, step]

theorem stepIn_of_halted {f : OpcodeFault} (hrun : s.run = .halted f) :
    stepIn par s = (.stopped (.fault (.unimplementedOpcode f)), s) := by
  simp only [stepIn, stepCallWith, hrun]

theorem stepIn_of_stall (hrun : s.run = .running) (hp : s.pending ≠ 0) :
    stepIn par s = (.stalled, s.setPending (s.pending - 1)) := by
  simp only [stepIn, stepCallWith, hrun, hp, if_false]

theorem stepIn_of_fetch_error {f : OpcodeFault} (hrun : s.run = .running) (hp : s.pending = 0)
    (hf : fetch par s = .error f) : stepIn par s = (.stopped (.fault (.unimplementedOpcode f)), s.halt f) := by
  simp only [stepIn, stepCallWith, hrun, hp, if_true, fetchStep, hf]

theorem stepIn_of_next {i : Instr} {t : State} (hrun : s.run = .running) (hp : s.pending = 0)
    (hf : fetch par s = .ok i) (hi : execWith par i s = .next t) :
    stepIn par s = (.executed s.pc i.opcode (t.pending + 1), t) := by
  simp only [stepIn, stepCallWith, hrun, hp, if_true, fetchStep, hf, hi]

theorem step_of_stall (hrun : s.run = .running) (hp : s.pending ≠ 0) :
    step s = .next (s.setPending (s.pending - 1)) := by
  rw [step_eq_stepIn, stepIn_of_stall hrun hp, outcomeOf]

/-! ### The fetched instruction (R106, R113) -/

theorem State.fetchBytes_eq (s : State) : s.fetchBytes = [s.read s.pc, s.read (s.pc + 1), s.read (s.pc + 2)] := by
  have htwo : s.pc + 2 = s.pc + 1 + 1 := addr_add_ofNat_succ s.pc 1
  rw [htwo]
  rfl

/-- An opcode byte that is undocumented does not decode; one outside the set decodes to an instruction that has it. -/
theorem fetch_of_unknown (h : s.read s.pc ∈ undocumented ∨ par.implemented (s.read s.pc) = false) :
    fetch par s = .error { op := s.read s.pc, addr := s.pc } := by
  rw [fetch, State.fetchBytes_eq]
  cases hf : formatOf (s.read s.pc) with
  | none => simp only [decode_of_formatOf_none hf]
  | some f =>
    have hdoc : s.read s.pc ∉ undocumented := by simp [← formatOf_eq_none_iff, hf]
    obtain ⟨i, rest, hread, hop⟩ := Format.read_two (formatOf_encodes hf) (s.read (s.pc + 1)) (s.read (s.pc + 2))
    have hi : i.wellFormed par = false := by rw [Instr.wellFormed, hop, h.resolve_left hdoc]
    simp only [decode_of_formatOf hf, hread, hi, Bool.false_eq_true, if_false]

end

end Sys2Proof.Machine

namespace Sys2Proof.Proofs

open Sys2Proof.Machine Sys2Proof.Stmt

/-- Settles O9: the three bytes are those a Fetch step reads. -/
theorem stepRunsDecodedInstruction : Obligations.StepRunsDecodedInstruction := by
  intro s i rest hrun hp hdecode hi
  rw [← s.fetchBytes_eq] at hdecode
  exact step_of_fetch hrun hp (fetch_of_decode hdecode hi)

/-- Settles O12: `step()` and `inject` look at `run` first, and only a reset, alone or after a load, writes it. -/
theorem haltedCoreRepeatsItsFault : Obligations.HaltedCoreRepeatsItsFault := by
  intro par s f hrun
  refine ⟨stepIn_of_halted hrun, ?_, fun bytes => ?_, s.resetOp_run par.resetSp, fun image => ?_⟩
  · rw [step_eq_stepIn, stepIn_of_halted hrun, outcomeOf]
  · simp only [inject, hrun]
  · cases himage : imageProblem image with
    | none => rw [load_of_none himage, if_pos rfl, hostReset, State.resetOp_run]
    | some reason => rw [load_of_problem himage, if_neg nofun, hrun]

/-- Settles O13: the Stall branch of `step()`. -/
theorem stallStepOnlyCountsDown : Obligations.StallStepOnlyCountsDown := by
  intro par s hrun hpos
  have hp : s.pending ≠ 0 := hpos.ne'
  exact ⟨stepIn_of_stall hrun hp, step_of_stall hrun hp⟩

/-- Settles O14: a fetch that gives no instruction halts the core with the byte and PC. -/
theorem unknownOpcodeHaltsTheCore : Obligations.UnknownOpcodeHaltsTheCore := by
  intro par s hrun hp
  refine ⟨fun h => stepIn_of_fetch_error hrun hp (fetch_of_unknown h), fun h => ?_⟩
  rw [step_eq_stepIn, stepIn_of_fetch_error hrun hp (fetch_of_unknown (.inl h)), outcomeOf]

end Sys2Proof.Proofs

/-! ### The cost of an instruction (R101, `70_reset_and_hazards.md` R339, R340) -/

namespace Sys2Proof.Machine

open Sys2Proof.Stmt

/-- The instruction answers a next state and reports this cost: `pending <- cost - 1`. -/
def CompletesAt (r : Result) (cost : Nat) : Prop := ∃ t, r = .next t ∧ t.pending + 1 = cost

section
variable {s : State} {c : Nat}

theorem State.stall_completesAt (hc : 1 ≤ c) (u : State) : CompletesAt (.next (u.stall c)) c :=
  ⟨_, rfl, Nat.sub_add_cancel hc⟩

/-- Two addresses are on different pages where their high bytes differ (`41_addressing.md` R134). -/
theorem bitNat_pageCrossed (p q : Addr) : bitNat (pageCrossed p q) = crossing p q := by
  have hpage : highByte p = highByte q ↔ p.toNat / 256 = q.toNat / 256 := by
    rw [← BitVec.toNat_inj, highByte_toNat, highByte_toNat]
  simp only [bitNat, pageCrossed, crossing, bne_iff_ne, ne_eq, hpage, ite_not]

theorem readExec_completesAt {o : Operand} {f : Byte → State → State} (hc : 1 ≤ c) :
    CompletesAt (readExec o c f s) (c + o.penalty s) :=
  State.stall_completesAt (Nat.le_add_right_of_le hc) _

/-- A class R instruction costs a cycle more where the index register crosses a page. -/
theorem readExec_completesAt_crossing {m : MemMode} {f : Byte → State → State} (hc : 1 ≤ c) :
    CompletesAt (readExec (.mem m) c f s) (c + crossing (m.base s) (m.ea s)) := by
  rw [← bitNat_pageCrossed]
  exact readExec_completesAt hc

/-- In the other modes nothing is added to the base address, so no page is crossed. -/
theorem readExec_completesAt_base {m : MemMode} {f : Byte → State → State} (hc : 1 ≤ c) (hm : m.ea s = m.base s) :
    CompletesAt (readExec (.mem m) c f s) c := by
  have h := readExec_completesAt_crossing (s := s) (m := m) (f := f) hc
  rwa [hm, crossing, if_pos rfl] at h

theorem State.branchTarget_eq (s : State) (d : Byte) : s.branchTarget d = Stmt.branchTarget s d := by
  have hsext : sext16 d = BitVec.ofInt 16 d.toInt := rfl
  have hnext : s.branchNext = BitVec.ofInt 16 ((s.pc.toNat : Int) + 2) := by
    rw [BitVec.ofInt_add, BitVec.ofInt_natCast, BitVec.ofNat_toNat, BitVec.setWidth_eq]
    rfl
  rw [State.branchTarget, Stmt.branchTarget, BitVec.ofInt_add, ← hnext, hsext]

theorem branchExec_completesAt {cond : Bool} {d : Byte} (hc : 1 ≤ c) :
    CompletesAt (branchExec c cond d s) (c + branchExtra cond d s) := by
  cases cond with
  | false => exact State.stall_completesAt hc _
  | true =>
    rw [branchExtra, if_pos rfl, ← State.branchTarget_eq, ← bitNat_pageCrossed, ← Nat.add_assoc]
    exact State.stall_completesAt (c := c + 1 + _) (by omega) _

/-- Every instruction completes, at its base cycle count and its conditional cycles: class R in the modes that can cross
a page, the branches, and no others have any. -/
theorem exec_completesAt (i : Instr) (s : State) : CompletesAt (exec i s) (baseCycles i + extraCycles s i) := by
  cases i with
  | ldaImm | ldxImm | ldyImm | adcImm | sbcImm | cmpImm | cpxImm | cpyImm | andImm | oraImm | eorImm =>
    exact readExec_completesAt (o := .imm _) (by decide)
  | ldaAbsX | ldaAbsY | ldaIndY | ldxAbsY | ldyAbsX | adcAbsX | adcAbsY | adcIndY | sbcAbsX | sbcAbsY | sbcIndY
  | cmpAbsX | cmpAbsY | cmpIndY | andAbsX | andAbsY | andIndY | oraAbsX | oraAbsY | oraIndY | eorAbsX | eorAbsY
  | eorIndY => exact readExec_completesAt_crossing (by decide)
  | ldaZp | ldaZpX | ldaAbs | ldaIndX | ldxZp | ldxZpY | ldxAbs | ldyZp | ldyZpX | ldyAbs | adcZp | adcZpX | adcAbs
  | adcIndX | sbcZp | sbcZpX | sbcAbs | sbcIndX | cmpZp | cmpZpX | cmpAbs | cmpIndX | cpxZp | cpxAbs | cpyZp | cpyAbs
  | andZp | andZpX | andAbs | andIndX | oraZp | oraZpX | oraAbs | oraIndX | eorZp | eorZpX | eorAbs | eorIndX | bitZp
  | bitAbs => exact readExec_completesAt_base (by decide) rfl
  | bcc | bcs | beq | bne | bmi | bpl | bvc | bvs => exact branchExec_completesAt (by decide)
  | staZp | staZpX | staAbs | staAbsX | staAbsY | staIndX | staIndY | stxZp | stxZpY | stxAbs | styZp | styZpX
  | styAbs | incZp | incZpX | incAbs | incAbsX | decZp | decZpX | decAbs | decAbsX | aslAcc | aslZp | aslZpX | aslAbs
  | aslAbsX | lsrAcc | lsrZp | lsrZpX | lsrAbs | lsrAbsX | rolAcc | rolZp | rolZpX | rolAbs | rolAbsX | rorAcc | rorZp
  | rorZpX | rorAbs | rorAbsX | tax | tay | txa | tya | tsx | txs | pha | php | pla | plp | inx | iny | dex | dey
  | jmpAbs | jmpInd | jsr | rts | clc | sec | cli | sei | cld | sed | clv | nop | brk | rti =>
    -- every other shape stalls at a fixed cost
    exact State.stall_completesAt (by decide) _

theorem two_le_baseCycles (i : Instr) : 2 ≤ baseCycles i := by
  unfold baseCycles
  split <;> decide

theorem exec_pending_pos {i : Instr} {t : State} (h : exec i s = .next t) : 1 ≤ t.pending := by
  obtain ⟨t', hnext, hcost⟩ := exec_completesAt i s
  cases h.symm.trans hnext
  have hbase := two_le_baseCycles i
  omega

theorem core_run_succ {t : State} (h : step s = .next t) (k : Nat) :
    Host.Core.run Sys2Proof.core (k + 1) s = Host.Core.run Sys2Proof.core k t := by
  have hstep : Sys2Proof.core.step s = .next t := h
  simp only [Host.Core.run, hstep]

/-- Stall steps count `pending` down, for as many steps as it holds (R102). -/
theorem run_of_stall {k : Nat} (hrun : s.run = .running) (hk : k ≤ s.pending) :
    Host.Core.run Sys2Proof.core k s = .next (s.setPending (s.pending - k)) := by
  induction k generalizing s with
  | zero => rfl
  | succ k ih =>
    have hp : s.pending ≠ 0 := by omega
    have hk' : k ≤ s.pending - 1 := by omega
    rw [core_run_succ (step_of_stall hrun hp), Nat.add_comm, ← Nat.sub_sub]
    exact ih (s := s.setPending (s.pending - 1)) hrun hk'

end

end Sys2Proof.Machine

namespace Sys2Proof.Proofs

open Sys2Proof.Machine

/-- Settles O15: the step ran an instruction, whose cost is 2 to 7 cycles, and the core stays running to stall the rest
out. -/
theorem instructionOccupiesItsCost : Obligations.InstructionOccupiesItsCost := by
  intro s t hp hstep
  obtain ⟨hrun, ⟨hne, _⟩ | ⟨_, i, _, hexec⟩⟩ := step_next_cases hstep
  · exact absurd hp hne
  · have ⟨keeps, hle⟩ := exec_ran hexec
    exact ⟨exec_pending_pos hexec, hle, fun k hk => run_of_stall (keeps.run.trans hrun) hk⟩

end Sys2Proof.Proofs

/-! ### `inject` (R110, `70_reset_and_hazards.md` R342) -/

namespace Sys2Proof.Machine

theorem fetch_writeBytes_encode {par : Params} {i : Instr} (hi : i.wellFormed par = true) (s : State) :
    fetch par ((s.writeBytes s.pc (encode i)).setPending 0) = .ok i := by
  obtain ⟨rest, hbytes⟩ := s.fetchBytes_writeBytes_encode i
  refine fetch_of_decode (rest := rest) ?_ hi
  rw [← decode_encode, ← hbytes]
  rfl

theorem inject_of_running {par : Params} {s t : State} {bytes : List Byte} {r : StepReturn} (hrun : s.run = .running)
    (h : stepIn par ((s.writeBytes s.pc bytes).setPending 0) = (r, t)) :
    inject par bytes s = (r, t.setPending 0) := by
  simp only [inject, hrun, h]

end Sys2Proof.Machine

namespace Sys2Proof.Proofs

open Sys2Proof.Machine

/-- Settles O11: the placed bytes decode to the instruction, so the Fetch step `inject` makes runs it. -/
theorem injectRunsTheInjectedInstruction : Obligations.InjectRunsTheInjectedInstruction := by
  intro par s t i hrun hi hnext
  have hrun' : ((s.writeBytes s.pc (encode i)).setPending 0).run = .running := by
    rw [State.setPending_run, State.writeBytes_run, hrun]
  have hstep := stepIn_of_next hrun' (State.setPending_pending _ _) (fetch_writeBytes_encode hi s) hnext
  rw [State.setPending_pc, State.writeBytes_pc] at hstep
  exact inject_of_running hrun hstep

end Sys2Proof.Proofs

/-! ### `run_for` (R109)

`runFor` recurses from its first step; R109 speaks of its last. Splitting a run in two gives the second from the
first. -/

namespace Sys2Proof.Machine

/-- A run carried on by another, unless it has stopped. -/
def RunResult.andThen (r : RunResult) (more : State → RunResult) : RunResult :=
  match r.stop with
  | some _ => r
  | none => { more r.state with steps := r.steps + (more r.state).steps }

section
variable {par : Params} {s u : State} {n : Nat}

theorem RunResult.andThen_of_stopped {r : RunResult} {why : Stop} (h : r.stop = some why) (more : State → RunResult) :
    r.andThen more = r := by
  simp only [andThen, h]

theorem RunResult.andThen_of_none {r : RunResult} (h : r.stop = none) (more : State → RunResult) :
    r.andThen more = { more r.state with steps := r.steps + (more r.state).steps } := by
  simp only [andThen, h]

/-- A run counts a step made before it, whether it stops or is carried on. -/
theorem RunResult.andThen_succ (r : RunResult) (more : State → RunResult) :
    RunResult.andThen { r with steps := r.steps + 1 } more =
      { r.andThen more with steps := (r.andThen more).steps + 1 } := by
  cases h : r.stop with
  | some why => simp only [andThen, h]
  | none => simp only [andThen, h, Nat.add_right_comm]

theorem runFor_add (par : Params) (m n : Nat) (s : State) :
    runFor par (m + n) s = (runFor par m s).andThen (runFor par n) := by
  induction m generalizing s with
  | zero => simp only [Nat.zero_add, runFor, RunResult.andThen]
  | succ m ih =>
    rw [Nat.succ_add]
    by_cases hstop : ∃ why, (stepIn par s).1 = .stopped why
    · obtain ⟨why, hwhy⟩ := hstop
      rw [runFor_succ_of_stopped (Prod.ext hwhy rfl), runFor_succ_of_stopped (Prod.ext hwhy rfl),
        RunResult.andThen_of_stopped rfl]
    · rw [runFor_succ_of_next (not_exists.1 hstop), runFor_succ_of_next (not_exists.1 hstop), ih,
        RunResult.andThen_succ]

theorem runFor_succ_of_stop_eq_some {why : Stop} (h : (runFor par n s).stop = some why) :
    runFor par (n + 1) s = runFor par n s := by
  rw [runFor_add, RunResult.andThen_of_stopped h]

theorem runFor_succ_of_last_stopped {why : Stop} {v : State}
    (hn : runFor par n s = { steps := n, stop := none, state := u }) (hu : stepIn par u = (.stopped why, v)) :
    runFor par (n + 1) s = { steps := n + 1, stop := some why, state := v } := by
  rw [runFor_add, hn, RunResult.andThen_of_none rfl, runFor_succ_of_stopped hu]

theorem runFor_succ_of_last_next (hn : runFor par n s = { steps := n, stop := none, state := u })
    (hu : ∀ why, (stepIn par u).1 ≠ .stopped why) :
    runFor par (n + 1) s = { steps := n + 1, stop := none, state := (stepIn par u).2 } := by
  rw [runFor_add, hn, RunResult.andThen_of_none rfl, runFor_succ_of_next hu]
  rfl

/-- A run stops nowhere in its `n` steps, or at some step `k + 1` of them. -/
theorem runFor_cases (par : Params) (n : Nat) (s : State) :
    (∃ u, runFor par n s = { steps := n, stop := none, state := u }) ∨
      ∃ k < n, ∃ u why v, runFor par k s = { steps := k, stop := none, state := u } ∧
        stepIn par u = (.stopped why, v) ∧ runFor par n s = { steps := k + 1, stop := some why, state := v } := by
  induction n with
  | zero => exact .inl ⟨s, rfl⟩
  | succ n ih =>
    rcases ih with ⟨u, hn⟩ | ⟨k, hk, u, why, v, hu, hstop, hn⟩
    · by_cases hstop : ∃ why, (stepIn par u).1 = .stopped why
      · obtain ⟨why, hwhy⟩ := hstop
        have hu : stepIn par u = (.stopped why, (stepIn par u).2) := Prod.ext hwhy rfl
        exact .inr ⟨n, n.lt_succ_self, u, why, _, hn, hu, runFor_succ_of_last_stopped hn hu⟩
      · exact .inl ⟨_, runFor_succ_of_last_next hn (not_exists.1 hstop)⟩
    · have hsucc : runFor par (n + 1) s = runFor par n s := runFor_succ_of_stop_eq_some (why := why) (by rw [hn])
      exact .inr ⟨k, hk.trans n.lt_succ_self, u, why, v, hu, hstop, hsucc.trans hn⟩

end

end Sys2Proof.Machine

namespace Sys2Proof.Proofs

open Sys2Proof.Machine

/-- Settles O18, by the two cases of a run: no step stops it, or step number `k + 1` does. -/
theorem runForStopsAtTheFirstStop : Obligations.RunForStopsAtTheFirstStop := by
  intro par s
  refine ⟨rfl, fun k u hk => ⟨fun why v hu => runFor_succ_of_last_stopped hk hu, runFor_succ_of_last_next hk⟩,
    fun n => ⟨fun why h => runFor_succ_of_stop_eq_some h, ?_⟩⟩
  rcases runFor_cases par n s with ⟨u, hn⟩ | ⟨k, hk, u, why, v, hu, hstop, hn⟩ <;> rw [hn]
  · exact ⟨le_rfl, fun _ => rfl, nofun⟩
  · refine ⟨hk, nofun, fun why' h => ⟨k, u, rfl, hu, ?_⟩⟩
    cases h
    exact hstop

end Sys2Proof.Proofs
end

section
/-! PROOFS of the family `41_addressing.md`: the effective address, the operand and the penalty of every mode, and the
two forms of JMP. -/

/-! ### Effective addresses on numbers (`41_addressing.md` R121 to R129) -/

namespace Sys2Proof.Machine

open Sys2Proof.Stmt

/-- An indexed zero page offset wraps in its page (R123, R124). -/
theorem zext16_add_toNat (z r : Byte) : (zext16 (z + r)).toNat = (z.toNat + r.toNat) % 256 := by
  rw [zext16_toNat, BitVec.toNat_add]

/-- An indexed address wraps modulo 2^16 (R126, R127). -/
theorem add_zext16_toNat (w : Addr) (r : Byte) : (w + zext16 r).toNat = (w.toNat + r.toNat) % 65536 := by
  rw [BitVec.toNat_add, zext16_toNat]

theorem zext16_eq_ofNat (z : Byte) : zext16 z = BitVec.ofNat 16 z.toNat := (BitVec.ofNat_toNat 16 z).symm

/-- Both bytes of a zero page pointer are read at offsets wrapped in page zero (R128, R129). -/
theorem State.zpPointer_toNat (s : State) {z : Byte} {k : Nat} (hz : z.toNat = k % 256) :
    (s.zpPointer z).toNat =
      256 * (s.read (BitVec.ofNat 16 ((k + 1) % 256))).toNat + (s.read (BitVec.ofNat 16 (k % 256))).toNat := by
  have hsucc : (z + 1).toNat = (k + 1) % 256 := by rw [BitVec.toNat_add, hz, Nat.mod_add_mod]; rfl
  rw [zpPointer, concat_toNat, zext16_eq_ofNat, zext16_eq_ofNat, hz, hsucc, Nat.mul_comm]

/-! ### The page-cross penalty (R134, R135) -/

theorem Operand.penalty_mem (s : State) (m : MemMode) : (Operand.mem m).penalty s = crossing (m.base s) (m.ea s) :=
  bitNat_pageCrossed _ _

/-- A mode that adds nothing to its base address stays in the page of the base. -/
theorem Operand.penalty_mem_eq_zero {s : State} {m : MemMode} (h : m.ea s = m.base s) :
    (Operand.mem m).penalty s = 0 := by
  rw [penalty_mem, h, crossing, if_pos rfl]

theorem crossing_add_zext16 (w : Addr) (r : Byte) :
    crossing w (w + zext16 r) = if w.toNat / 256 = (w.toNat + r.toNat) % 65536 / 256 then 0 else 1 := by
  rw [crossing, add_zext16_toNat]

end Sys2Proof.Machine

namespace Sys2Proof.Proofs

open Sys2Proof.Machine Sys2Proof.Stmt

/-- Settles O54: `ea` sums bytes in page zero and words modulo 2^16, and only abs,X, abs,Y and (zp),Y add an index to
their base address. -/
theorem effectiveAddresses : Obligations.EffectiveAddresses := by
  intro s z v w pointer crossed
  have hindX : (s.zpPointer (z + s.x)).toNat = pointer (z.toNat + s.x.toNat) :=
    s.zpPointer_toNat (BitVec.toNat_add z s.x)
  have hindY : (s.zpPointer z).toNat = pointer z.toNat := s.zpPointer_toNat (Nat.mod_eq_of_lt z.isLt).symm
  refine ⟨zext16_toNat z, zext16_add_toNat z s.x, zext16_add_toNat z s.y, rfl, add_zext16_toNat w s.x,
    add_zext16_toNat w s.y, hindX, ?indY_ea, rfl, fun _ => rfl, rfl, Operand.penalty_mem_eq_zero rfl,
    Operand.penalty_mem_eq_zero rfl, Operand.penalty_mem_eq_zero rfl, Operand.penalty_mem_eq_zero rfl,
    Operand.penalty_mem_eq_zero rfl, ?absX_penalty, ?absY_penalty, ?indY_penalty⟩
  case indY_ea => rw [MemMode.ea, add_zext16_toNat, hindY]
  case absX_penalty => exact (Operand.penalty_mem s _).trans (crossing_add_zext16 w s.x)
  case absY_penalty => exact (Operand.penalty_mem s _).trans (crossing_add_zext16 w s.y)
  case indY_penalty =>
    rw [← hindY]
    exact (Operand.penalty_mem s _).trans (crossing_add_zext16 (s.zpPointer z) s.y)

end Sys2Proof.Proofs

/-! ### JMP (R130, `47_control.md` R259, R260) -/

namespace Sys2Proof.Machine

open Sys2Proof.Stmt

/-- The encoding of an instruction decodes to it and leaves no byte over. -/
theorem form_of_encode {bytes : List Byte} {i : Instr} {s t : State} (hbytes : encode i = bytes)
    (hnext : exec i s = .next t) : Form bytes i s t := by
  have hdecode := decode_encode i []
  rw [List.append_nil, hbytes] at hdecode
  exact ⟨hdecode, hnext⟩

theorem withWord_concat (op lo hi : Byte) : withWord op (concat hi lo) = [op, lo, hi] := by
  rw [withWord, lowByte_concat, highByte_concat]

/-- The masks of R130 take the page of one word and the offset of another. -/
theorem and_page_or_and_offset (u v : Addr) : (u &&& 0xFF00) ||| (v &&& 0x00FF) = concat (highByte u) (lowByte v) := by
  refine BitVec.eq_of_getLsbD_eq fun j hj => ?_
  simp only [concat, highByte, lowByte, BitVec.getLsbD_append, BitVec.getLsbD_or, BitVec.getLsbD_and,
    BitVec.getLsbD_extractLsb']
  interval_cases j <;> simp

theorem lowByte_add_one (w : Addr) : lowByte (w + 1) = lowByte w + 1 := by
  apply BitVec.eq_of_toNat_eq
  rw [lowByte_toNat, BitVec.toNat_add, BitVec.toNat_add, lowByte_toNat]
  simp

/-- With the page wrap, the pointer's successor has the pointer's page and the next offset in it. -/
theorem indirectHighAddr_wrap (ptr : Addr) :
    indirectHighAddr true ptr = concat (highByte ptr) (lowByte ptr + 1) := by
  rw [indirectHighAddr, if_pos rfl, and_page_or_and_offset, lowByte_add_one]

theorem indirectHighAddr_eq (pageWrap : Bool) (ptr : Addr) :
    indirectHighAddr pageWrap ptr =
      if pageWrap then BitVec.ofNat 16 (ptr.toNat / 256 * 256 + (ptr.toNat + 1) % 256)
      else BitVec.ofNat 16 (ptr.toNat + 1) := by
  cases pageWrap with
  | false =>
    have hsucc : indirectHighAddr false ptr = ptr + 1 := rfl
    rw [hsucc, if_neg nofun, BitVec.ofNat_add, BitVec.ofNat_toNat, BitVec.setWidth_eq]
    rfl
  | true =>
    have hptr := ptr.isLt
    apply BitVec.eq_of_toNat_eq
    rw [indirectHighAddr_wrap, if_pos rfl, concat_toNat, highByte_toNat, ← lowByte_add_one, lowByte_toNat,
      addr_succ_eq_ofNat, BitVec.toNat_ofNat, BitVec.toNat_ofNat]
    omega

end Sys2Proof.Machine

namespace Sys2Proof.Proofs

open Sys2Proof.Machine Sys2Proof.Stmt

/-- Settles O46: the two forms run `exec_jmpAbs` and `exec_jmpInd`, whose target's high byte is read where
`indirectHighAddr` says. -/
theorem jumpsReplacePc : Obligations.JumpsReplacePc := by
  intro s lo hi
  refine ⟨form_of_encode (withWord_concat 0x4C lo hi) (exec_jmpAbs _ s),
    form_of_encode (withWord_concat 0x6C lo hi) ?_, fun par ptr => ?_⟩
  · rw [exec_jmpInd, State.indirectTarget, indirectHighAddr_wrap, highByte_concat, lowByte_concat]
    rfl
  · rw [← indirectHighAddr_eq]
    rfl

end Sys2Proof.Proofs
end

section
/-! PROOFS of the family `42_load_store.md`: what a class R and a class W instruction of any form do, and every load
and store as one of them. -/

/-! ### Class R and class W forms (`41_addressing.md` R135, R136) -/

namespace Sys2Proof.Machine

open Sys2Proof.Stmt

section

variable {bytes : List Byte} {i : Instr} {cycles : Nat} {s : State}

/-- A class R instruction has a form as soon as its effect, with PC and the cost, is `after`. -/
theorem readForm_of_readExec {o : Operand} {f : Byte → State → State} {after : Byte → Nat → Nat → State}
    (hafter : ∀ m len cost, (f m (s.advance len)).stall cost = after m len cost)
    (hexec : exec i s = readExec o cycles f s) (hbytes : encode i = bytes)
    (hlen : 1 + o.operandBytes = bytes.length) : ReadForm bytes i o cycles s after := by
  refine form_of_encode hbytes ?_
  rw [hexec, readExec_next, hlen, hafter]

/-- A bus write stores one byte, seen through every mirror of its address. -/
theorem State.write_oneByteStored (s : State) (ea : Addr) (v : Byte) : OneByteStored s (s.write ea v) ea v := by
  intro b
  simp only [State.write_read, eq_comm]

/-- A class W instruction has a form: of the operations it chains, only the bus write reaches memory, and none reaches a
register other than PC. -/
theorem storeForm_of_writeExec {m : MemMode} {v : Byte} (hexec : exec i s = writeExec m cycles v s)
    (hbytes : encode i = bytes) (hlen : 1 + m.operandBytes = bytes.length) : StoreForm bytes i m cycles v s := by
  refine ⟨((s.advance bytes.length).write (m.ea s) v).stall cycles, form_of_encode hbytes ?_,
    ⟨rfl, rfl, rfl, rfl, rfl⟩, rfl, rfl, rfl, s.write_oneByteStored (m.ea s) v⟩
  rw [hexec, writeExec_next, hlen]

end

/-! ### The effects of the loads (`42_load_store.md` R140 to R142) -/

theorem State.loadA_advance_stall (s : State) (m : Byte) (len cost : Nat) :
    (State.loadA m (s.advance len)).stall cost = afterLdA s m len cost := rfl

theorem State.loadX_advance_stall (s : State) (m : Byte) (len cost : Nat) :
    (State.loadX m (s.advance len)).stall cost = afterLdX s m len cost := rfl

theorem State.loadY_advance_stall (s : State) (m : Byte) (len cost : Nat) :
    (State.loadY m (s.advance len)).stall cost = afterLdY s m len cost := rfl

end Sys2Proof.Machine

namespace Sys2Proof.Proofs

open Sys2Proof.Machine Sys2Proof.Stmt

/-- Settles O31: each form is a class W instruction of its row of the opcode map. -/
theorem storesWriteOneByte : Obligations.StoresWriteOneByte := fun s =>
  ⟨fun z => storeForm_of_writeExec (exec_staZp z s) rfl rfl,
    fun z => storeForm_of_writeExec (exec_staZpX z s) rfl rfl,
    fun lo hi => storeForm_of_writeExec (exec_staAbs _ s) (withWord_concat _ lo hi) rfl,
    fun lo hi => storeForm_of_writeExec (exec_staAbsX _ s) (withWord_concat _ lo hi) rfl,
    fun lo hi => storeForm_of_writeExec (exec_staAbsY _ s) (withWord_concat _ lo hi) rfl,
    fun z => storeForm_of_writeExec (exec_staIndX z s) rfl rfl,
    fun z => storeForm_of_writeExec (exec_staIndY z s) rfl rfl,
    fun z => storeForm_of_writeExec (exec_stxZp z s) rfl rfl,
    fun z => storeForm_of_writeExec (exec_stxZpY z s) rfl rfl,
    fun lo hi => storeForm_of_writeExec (exec_stxAbs _ s) (withWord_concat _ lo hi) rfl,
    fun z => storeForm_of_writeExec (exec_styZp z s) rfl rfl,
    fun z => storeForm_of_writeExec (exec_styZpX z s) rfl rfl,
    fun lo hi => storeForm_of_writeExec (exec_styAbs _ s) (withWord_concat _ lo hi) rfl⟩

/-- Settles O30: each form is a class R instruction of its row of the opcode map, with the effect of its mnemonic. -/
theorem loadsSetTheirRegisterAndNZ : Obligations.LoadsSetTheirRegisterAndNZ := by
  intro s
  have hA := s.loadA_advance_stall
  have hX := s.loadX_advance_stall
  have hY := s.loadY_advance_stall
  exact ⟨⟨fun v => readForm_of_readExec hA (exec_ldaImm v s) rfl rfl,
      fun z => readForm_of_readExec hA (exec_ldaZp z s) rfl rfl,
      fun z => readForm_of_readExec hA (exec_ldaZpX z s) rfl rfl,
      fun lo hi => readForm_of_readExec hA (exec_ldaAbs _ s) (withWord_concat _ lo hi) rfl,
      fun lo hi => readForm_of_readExec hA (exec_ldaAbsX _ s) (withWord_concat _ lo hi) rfl,
      fun lo hi => readForm_of_readExec hA (exec_ldaAbsY _ s) (withWord_concat _ lo hi) rfl,
      fun z => readForm_of_readExec hA (exec_ldaIndX z s) rfl rfl,
      fun z => readForm_of_readExec hA (exec_ldaIndY z s) rfl rfl⟩,
    fun v => readForm_of_readExec hX (exec_ldxImm v s) rfl rfl,
    fun z => readForm_of_readExec hX (exec_ldxZp z s) rfl rfl,
    fun z => readForm_of_readExec hX (exec_ldxZpY z s) rfl rfl,
    fun lo hi => readForm_of_readExec hX (exec_ldxAbs _ s) (withWord_concat _ lo hi) rfl,
    fun lo hi => readForm_of_readExec hX (exec_ldxAbsY _ s) (withWord_concat _ lo hi) rfl,
    fun v => readForm_of_readExec hY (exec_ldyImm v s) rfl rfl,
    fun z => readForm_of_readExec hY (exec_ldyZp z s) rfl rfl,
    fun z => readForm_of_readExec hY (exec_ldyZpX z s) rfl rfl,
    fun lo hi => readForm_of_readExec hY (exec_ldyAbs _ s) (withWord_concat _ lo hi) rfl,
    fun lo hi => readForm_of_readExec hY (exec_ldyAbsX _ s) (withWord_concat _ lo hi) rfl⟩

end Sys2Proof.Proofs
end

section
/-! PROOFS of the family `43_transfer.md`: what an implied instruction of one byte and two cycles does, and the six
transfers as such instructions. -/

/-! ### Implied instructions of one byte and two cycles (`41_addressing.md` R133) -/

namespace Sys2Proof.Machine

open Sys2Proof.Stmt

/-- An implied instruction has a two-cycle form as soon as its effect, with PC one further and the cost 2, is the form's
result. -/
theorem twoCycleForm_of_impliedExec {opcode : Byte} {i : Instr} {f : State → State} {s t : State}
    (hexec : exec i s = impliedExec 2 f s) (hbytes : encode i = [opcode])
    (hafter : (f (s.advance 1)).stall 2 = { t with pc := s.pc + 1, pending := 1 }) : TwoCycleForm opcode i s t :=
  form_of_encode hbytes (hexec.trans ((impliedExec_next 2 f s _).2 hafter.symm))

end Sys2Proof.Machine

namespace Sys2Proof.Proofs

open Sys2Proof.Machine Sys2Proof.Stmt

/-- Settles O32: the five transfers that write a flag are loads of the source register into A, X or Y; TXS only sets
SP. -/
theorem transfersCopyOneRegister : Obligations.TransfersCopyOneRegister := fun s =>
  ⟨twoCycleForm_of_impliedExec (exec_tax s) rfl (s.loadX_advance_stall s.a 1 2),
    twoCycleForm_of_impliedExec (exec_tay s) rfl (s.loadY_advance_stall s.a 1 2),
    twoCycleForm_of_impliedExec (exec_txa s) rfl (s.loadA_advance_stall s.x 1 2),
    twoCycleForm_of_impliedExec (exec_tya s) rfl (s.loadA_advance_stall s.y 1 2),
    twoCycleForm_of_impliedExec (exec_tsx s) rfl (s.loadX_advance_stall s.sp 1 2),
    twoCycleForm_of_impliedExec (exec_txs s) rfl rfl⟩

end Sys2Proof.Proofs
end

section
/-! PROOFS of the family `44_stack.md`: the stack page, push and pop as operations on it, the push and pull
instructions, and the refinement of a list by the stack. -/

/-! ### The stack page (R170 to R172, R175) -/

namespace Sys2Proof.Machine

open Sys2Proof.Stmt

/-- R170 on numbers. -/
theorem stackAddr_eq_stackCell (sp : Byte) : stackAddr sp = stackCell sp := by
  rw [stackAddr, stackCell, BitVec.ofNat_add, zext16_eq_ofNat]
  rfl

theorem stackCell_toNat (sp : Byte) : (stackCell sp).toNat = 256 + sp.toNat := by
  rw [stackCell, BitVec.toNat_ofNat]
  omega

/-- The stack page lies below the first mirror: a stack cell is its own canonical cell. -/
theorem resolve_stackAddr (sp : Byte) : resolve (stackAddr sp) = stackAddr sp := by
  apply BitVec.eq_of_toNat_eq
  rw [resolve_toNat, stackAddr_eq_stackCell, stackCell_toNat, if_pos (by omega)]
  omega

theorem resolve_stackAddr_inj {sp sp' : Byte} : resolve (stackAddr sp) = resolve (stackAddr sp') ↔ sp = sp' := by
  refine ⟨fun h => BitVec.eq_of_toNat_eq ?_, congrArg fun sp => resolve (stackAddr sp)⟩
  have h := congrArg BitVec.toNat h
  rw [resolve_stackAddr, resolve_stackAddr, stackAddr_eq_stackCell, stackAddr_eq_stackCell, stackCell_toNat,
    stackCell_toNat] at h
  omega

theorem State.push_oneByteStored (s : State) (v : Byte) : OneByteStored s (s.push v) (stackCell s.sp) v := by
  rw [← stackAddr_eq_stackCell]
  exact s.write_oneByteStored (stackAddr s.sp) v

/-- What a push leaves in each cell of the stack page. -/
theorem State.push_read_stackAddr (s : State) (v sp : Byte) :
    (s.push v).read (stackAddr sp) = if sp = s.sp then v else s.read (stackAddr sp) := by
  have hstored := s.push_oneByteStored v (stackAddr sp)
  simpa only [← stackAddr_eq_stackCell, resolve_stackAddr_inj] using hstored

theorem byte_succ_eq_ofNat (b : Byte) : b + 1 = BitVec.ofNat 8 (b.toNat + 1) := by
  rw [BitVec.ofNat_add, BitVec.ofNat_toNat, BitVec.setWidth_eq]
  rfl

end Sys2Proof.Machine

namespace Sys2Proof.Proofs

open Sys2Proof.Machine Sys2Proof.Stmt

/-- Settles O28: a push is one bus write at `stackCell s.sp`, a pop one read at `stackCell (s.sp + 1)`. -/
theorem pushAndPopWrapInTheStackPage : Obligations.PushAndPopWrapInTheStackPage := by
  intro s v
  refine ⟨s.push_oneByteStored v, ?push_sp, rfl, ?pop_value, ?pop_state, ?canonical⟩
  case push_sp => exact (BitVec.toNat_sub s.sp 1).trans (congrArg (· % 256) (Nat.add_comm _ _))
  case pop_value =>
    have hsucc : (s.sp + 1).toNat = (s.sp.toNat + 1) % 256 := BitVec.toNat_add s.sp 1
    rw [State.pop_value, stackAddr_eq_stackCell, stackCell, hsucc]
  case pop_state => rw [State.pop_state, ← byte_succ_eq_ofNat, State.setSp]
  case canonical => exact (resolve_stackAddr s.sp).trans (stackAddr_eq_stackCell s.sp)

end Sys2Proof.Proofs

/-! ### PHA, PHP, PLA and PLP (R177 to R180) -/

namespace Sys2Proof.Machine

open Sys2Proof.Stmt

/-- The state after an implied instruction whose effect is a push. -/
def State.afterPush (s : State) (v : Byte) : State := ((s.advance 1).push v).stall 3

theorem State.afterPush_onePushed (s : State) (v : Byte) : OnePushed s (s.afterPush v) v :=
  ⟨rfl, rfl, rfl, rfl, rfl, rfl, rfl, (s.advance 1).push_oneByteStored v⟩

theorem phpWith_eq (mode : PushBMode) (s : State) :
    phpWith mode s = .next (s.afterPush (statusByte s.p (if mode = .stored then s.p.b else true))) := by
  have hB : s.p.pushedB mode = if mode = .stored then s.p.b else true := by cases mode <;> rfl
  rw [← hB, ← Flags.pack_eq_statusByte]
  rfl

end Sys2Proof.Machine

namespace Sys2Proof.Proofs

open Sys2Proof.Machine Sys2Proof.Stmt

/-- Settles O33: each is an implied instruction that pushes one byte, and PHP's byte is `Flags.pack` of the flags. -/
theorem pushInstructionsPushOneByte : Obligations.PushInstructionsPushOneByte := fun s =>
  ⟨⟨s.afterPush s.a, form_of_encode rfl (exec_pha s), s.afterPush_onePushed s.a, rfl⟩,
    ⟨_, form_of_encode rfl (phpWith_eq .stored s), s.afterPush_onePushed _, rfl⟩,
    fun par => ⟨_, phpWith_eq par.pushBMode s, rfl, s.afterPush_onePushed _⟩⟩

/-- Settles O34: each is an implied instruction that pops one byte from `stackCell (s.sp + 1)`. -/
theorem pullInstructionsPullOneByte : Obligations.PullInstructionsPullOneByte := by
  intro s
  rw [← stackAddr_eq_stackCell]
  exact ⟨form_of_encode rfl (exec_pla s), form_of_encode rfl (exec_plp s)⟩

end Sys2Proof.Proofs

/-! ### The stack as a list (R176)

The machine's stack holds a list of bytes above SP: `HoldsBytes` is kept by every push that leaves at most 256 bytes
outstanding and by every pop, and a word is two bytes. -/

namespace Sys2Proof.Machine

open Sys2Proof.Stmt

/-- The stack that started at `base` holds `bytes`, the last pushed first: SP is lower by their number, and each byte is
in the cell that SP pointed at when the bytes below it were outstanding. -/
structure HoldsBytes (base : Byte) (s : State) (bytes : List Byte) : Prop where
  sp : s.sp = base - BitVec.ofNat 8 bytes.length
  cell : ∀ v below, v :: below <:+ bytes → s.read (stackAddr (base - BitVec.ofNat 8 below.length)) = v

theorem holdsBytes_nil (s : State) : HoldsBytes s.sp s [] where
  sp := (BitVec.sub_zero s.sp).symm
  cell := by simp

theorem stackOffset_succ (base : Byte) (n : Nat) : base - BitVec.ofNat 8 (n + 1) = base - BitVec.ofNat 8 n - 1 := by
  rw [BitVec.ofNat_add, sub_add_eq_sub_sub]
  rfl

/-- Fewer than 256 different numbers of bytes outstanding are at different stack offsets. -/
theorem stackOffset_ne {m n : Nat} (base : Byte) (hlt : m < n) (hn : n < 256) :
    base - BitVec.ofNat 8 m ≠ base - BitVec.ofNat 8 n := by
  intro h
  have h := congrArg BitVec.toNat ((BitVec.sub_right_inj _).1 h)
  rw [BitVec.toNat_ofNat, BitVec.toNat_ofNat] at h
  omega

section

variable {base v : Byte} {s : State} {bytes : List Byte}

theorem HoldsBytes.push (h : HoldsBytes base s bytes) (v : Byte) (hroom : bytes.length < 256) :
    HoldsBytes base (s.push v) (v :: bytes) where
  sp := by
    rw [State.push_sp, h.sp, List.length_cons, stackOffset_succ]
  cell u below hsuffix := by
    rw [State.push_read_stackAddr, h.sp]
    rcases List.suffix_cons_iff.1 hsuffix with htop | hbelow
    · obtain ⟨rfl, rfl⟩ := List.cons.inj htop
      exact if_pos rfl
    · rw [if_neg (stackOffset_ne base hbelow.length_le hroom)]
      exact h.cell u below hbelow

theorem HoldsBytes.sp_succ (h : HoldsBytes base s (v :: bytes)) :
    s.sp + 1 = base - BitVec.ofNat 8 bytes.length := by
  rw [h.sp, List.length_cons, stackOffset_succ, BitVec.sub_add_cancel]

theorem HoldsBytes.pop_value (h : HoldsBytes base s (v :: bytes)) : s.pop.1 = v := by
  rw [State.pop_value, h.sp_succ]
  exact h.cell v bytes (List.suffix_refl _)

theorem HoldsBytes.pop_state (h : HoldsBytes base s (v :: bytes)) : HoldsBytes base s.pop.2 bytes where
  sp := h.sp_succ
  cell u below hsuffix := h.cell u below (hsuffix.trans (List.suffix_cons v bytes))

end

end Sys2Proof.Machine

namespace Sys2Proof.Stmt

/-- The bytes of an item, the first to be popped first: a word's low byte is at the lower address (R173). -/
def StackItem.bytes : StackItem → List Byte
  | .byte v => [v]
  | .word w => [Machine.lowByte w, Machine.highByte w]

/-- The bytes of an ideal stack, the first to be popped first. -/
def stackedBytes (items : List StackItem) : List Byte := items.flatMap StackItem.bytes

theorem StackItem.bytes_length (item : StackItem) : item.bytes.length = item.size := by
  cases item <;> rfl

theorem stackedBytes_length (items : List StackItem) : (stackedBytes items).length = outstanding items := by
  induction items with
  | nil => rfl
  | cons item items ih =>
    rw [stackedBytes, List.flatMap_cons, List.length_append, StackItem.bytes_length, outstanding, ← ih, stackedBytes]

end Sys2Proof.Stmt

namespace Sys2Proof.Machine

open Sys2Proof.Stmt

/-- The machine's stack that started at `base` refines the ideal stack `items`. -/
abbrev HoldsItems (base : Byte) (s : State) (items : List StackItem) : Prop :=
  HoldsBytes base s (stackedBytes items)

section

variable {base : Byte} {s : State} {items : List StackItem}

theorem HoldsItems.push (h : HoldsItems base s items) (v : Byte) (hroom : outstanding (.byte v :: items) ≤ 256) :
    HoldsItems base (s.push v) (.byte v :: items) := by
  rw [← stackedBytes_length] at hroom
  exact HoldsBytes.push h v hroom

theorem HoldsItems.push16 (h : HoldsItems base s items) (w : Addr) (hroom : outstanding (.word w :: items) ≤ 256) :
    HoldsItems base (s.push16 w) (.word w :: items) := by
  rw [← stackedBytes_length] at hroom
  exact (HoldsBytes.push h (highByte w) (Nat.lt_of_succ_lt hroom)).push (lowByte w) hroom

theorem HoldsItems.pop16_value {w : Addr} (h : HoldsItems base s (.word w :: items)) : s.pop16.1 = w := by
  have hlo : s.pop.1 = lowByte w := HoldsBytes.pop_value h
  have hhi : s.pop.2.pop.1 = highByte w := (HoldsBytes.pop_state h).pop_value
  calc s.pop16.1 = concat s.pop.2.pop.1 s.pop.1 := rfl
    _ = w := by rw [hlo, hhi, concat_highByte_lowByte]

theorem HoldsItems.pop16_state {w : Addr} (h : HoldsItems base s (.word w :: items)) :
    HoldsItems base s.pop16.2 items :=
  (HoldsBytes.pop_state h).pop_state

/-- The machine's primitives pop what the ideal stack pops, and hold what is left on it. -/
theorem realStack_refines {ops : List StackOp} {popped left : List StackItem} (h : HoldsItems base s items)
    (hideal : idealStack ops items = some (popped, left)) :
    (realStack ops s).1 = popped ∧ HoldsItems base (realStack ops s).2 left := by
  fun_induction idealStack ops items generalizing s popped with
  | case1 items =>
    obtain ⟨rfl, rfl⟩ := Prod.mk.inj (Option.some.inj hideal)
    exact ⟨rfl, h⟩
  | case2 item ops items hroom ih =>
    cases item with
    | byte v => exact ih (h.push v hroom) hideal
    | word w => exact ih (h.push16 w hroom) hideal
  | case4 ops v items ih =>
    obtain ⟨⟨rest, left⟩, hrest, hr⟩ := Option.map_eq_some_iff.1 hideal
    obtain ⟨rfl, rfl⟩ := Prod.mk.inj hr
    obtain ⟨hpopped, hleft⟩ := ih (HoldsBytes.pop_state h) hrest
    exact ⟨congrArg₂ _ (congrArg _ (HoldsBytes.pop_value h)) hpopped, hleft⟩
  | case5 ops w items ih =>
    obtain ⟨⟨rest, left⟩, hrest, hr⟩ := Option.map_eq_some_iff.1 hideal
    obtain ⟨rfl, rfl⟩ := Prod.mk.inj hr
    obtain ⟨hpopped, hleft⟩ := ih h.pop16_state hrest
    exact ⟨congrArg₂ _ (congrArg _ h.pop16_value) hpopped, hleft⟩
  | case3 | case6 | case7 => exact nomatch hideal

end

end Sys2Proof.Machine

namespace Sys2Proof.Proofs

open Sys2Proof.Machine Sys2Proof.Stmt

/-- Settles O29: from the empty stack at any SP, by `realStack_refines`; SP is the first part of what holds of the items
left. -/
theorem stackIsLastInFirstOut : Obligations.StackIsLastInFirstOut := by
  intro ops s popped left hideal
  obtain ⟨hpopped, hleft⟩ := realStack_refines (holdsBytes_nil s) hideal
  have hsp : (realStack ops s).2.sp = s.sp - BitVec.ofNat 8 (outstanding left) := by
    rw [← stackedBytes_length]
    exact hleft.sp
  refine ⟨hpopped, hsp, fun hempty => ?_⟩
  rw [hsp, hempty]
  exact BitVec.sub_zero s.sp

end Sys2Proof.Proofs
end

section
/-! PROOFS of the family `45_arith.md`: V and C of an addition, ADC and SBC in every form and under `DECIMAL_ARITH`, the
comparisons, and the increments and decrements of memory and of the index registers. -/

/-! ### AddWithCarry (`45_arith.md` R190, R192) -/

namespace Sys2Proof.Machine

open Sys2Proof.Stmt

/-- R190's mask picks the sign bit. -/
theorem and_signBit_bne_zero (b : Byte) : ((b &&& 0x80) != 0) = b.msb := by
  have hmask : b &&& 0x80 = if b.getLsbD 7 then 0x80 else 0 := b.and_twoPow 7
  rw [hmask, b.msb_eq_getLsbD_last]
  cases b.getLsbD 7 <;> rfl

/-- A byte as a signed number, by the half of the byte range it is in. -/
theorem byte_toInt (b : Byte) : b.toInt = if 128 ≤ b.toNat then (b.toNat : Int) - 256 else b.toNat := by
  simp only [BitVec.toInt_eq_msb_cond, BitVec.msb_eq_decide, decide_eq_true_eq]
  rfl

theorem byte_not_toNat (b : Byte) : (~~~b).toNat = 255 - b.toNat := BitVec.toNat_not

theorem byte_not_toInt (b : Byte) : (~~~b).toInt = -1 - b.toInt := by
  have := b.isLt
  rw [byte_toInt, byte_toInt, byte_not_toNat]
  split_ifs <;> omega

/-- R190's formula: the operands have one sign and the result has the other. -/
theorem Flags.addWithCarry_v_iff_msb (p : Flags) (a m : Byte) :
    (p.addWithCarry a m).2.v = true ↔
      a.msb ≠ (p.addWithCarry a m).1.msb ∧ m.msb ≠ (p.addWithCarry a m).1.msb := by
  rw [← Bool.xor_iff_ne, ← Bool.xor_iff_ne, ← Bool.and_eq_true, ← BitVec.msb_xor, ← BitVec.msb_xor,
    ← BitVec.msb_and, ← and_signBit_bne_zero]
  rfl

theorem Flags.addWithCarry_result_toNat (p : Flags) (a m : Byte) :
    (p.addWithCarry a m).1.toNat = (a.toNat + m.toNat + bitNat p.c) % 256 :=
  BitVec.toNat_ofNat _ 8

/-- V is signed overflow: with operands of one sign, the result has the other exactly when the signed sum is out of
range. -/
theorem Flags.addWithCarry_v_iff (p : Flags) (a m : Byte) :
    (p.addWithCarry a m).2.v = true ↔
      (a.toInt + m.toInt + (bitNat p.c : Int) < -128 ∨ 127 < a.toInt + m.toInt + (bitNat p.c : Int)) := by
  have ha := a.isLt
  have hm := m.isLt
  have hc := bitNat_le_one p.c
  simp only [addWithCarry_v_iff_msb, BitVec.msb_eq_decide, addWithCarry_result_toNat, Nat.reduceSub, Nat.reducePow,
    ne_eq, decide_eq_decide, byte_toInt]
  split_ifs <;> omega

theorem bitNat_decide (q : Prop) [Decidable q] : bitNat (decide q) = if q then 1 else 0 := by
  simp only [bitNat, decide_eq_true_eq]

/-- The result with C as bit 8 is the sum, which is below 512. -/
theorem Flags.addWithCarry_carry_result (p : Flags) (a m : Byte) :
    256 * bitNat (p.addWithCarry a m).2.c + (p.addWithCarry a m).1.toNat = a.toNat + m.toNat + bitNat p.c := by
  have ha := a.isLt
  have hm := m.isLt
  have hc := bitNat_le_one p.c
  have hcarry : (p.addWithCarry a m).2.c = decide (a.toNat + m.toNat + bitNat p.c > 0xFF) := rfl
  rw [addWithCarry_result_toNat, hcarry, bitNat_decide]
  split_ifs <;> omega

/-! ### The effects of ADC, SBC and the comparisons (R191 to R196) -/

theorem State.addA_advance_stall (s : State) (m : Byte) (len cost : Nat) :
    (State.addA m (s.advance len)).stall cost = afterAdc s m len cost := by
  simp only [afterAdc, ne_eq, decide_not]
  rfl

/-- R192's sum is the difference of the integers, raised by 256. -/
theorem add_not_toNat (a m : Byte) (c : Bool) :
    (a.toNat + (~~~m).toNat + bitNat c : Nat) = (a.toNat : Int) - m.toNat - (1 - bitNat c) + 256 := by
  have := m.isLt
  rw [byte_not_toNat]
  omega

/-- SBC on integers: AddWithCarry of the complement wraps, carries and overflows as the subtraction does. -/
theorem Flags.subWithBorrow_eq (p : Flags) (a m : Byte) :
    let borrow : Int := 1 - (bitNat p.c : Int)
    let d : Int := a.toNat - m.toNat - borrow
    let e : Int := a.toInt - m.toInt - borrow
    p.subWithBorrow a m =
      (BitVec.ofInt 8 d,
        nz { p with c := decide (0 ≤ d), v := decide (e < -128 ∨ 127 < e) } (BitVec.ofInt 8 d)) := by
  intro borrow d e
  have hsum : (a.toNat + (~~~m).toNat + bitNat p.c : Nat) = d + 256 := add_not_toNat a m p.c
  have hsigned : a.toInt + (~~~m).toInt + bitNat p.c = e := by
    rw [byte_not_toInt]
    omega
  have hresult : (p.subWithBorrow a m).1 = BitVec.ofInt 8 d := by
    apply BitVec.eq_of_toNat_eq
    rw [subWithBorrow, addWithCarry_result_toNat, BitVec.toNat_ofInt]
    omega
  have hc : (p.subWithBorrow a m).2.c = decide (0 ≤ d) := by
    refine decide_eq_decide.2 ?_
    omega
  have hv : (p.subWithBorrow a m).2.v = decide (e < -128 ∨ 127 < e) := by
    rw [Bool.eq_iff_iff, subWithBorrow, addWithCarry_v_iff, hsigned, decide_eq_true_iff]
  rw [← hresult, ← hc, ← hv]
  rfl

theorem State.subA_advance_stall (s : State) (m : Byte) (len cost : Nat) :
    (State.subA m (s.advance len)).stall cost = afterSbc s m len cost := by
  have h := s.p.subWithBorrow_eq s.a m
  simp only [State.subA, State.advance_p, State.advance_a, h]
  rfl

/-- The difference modulo 2^8 is that of the integers. -/
theorem Flags.compare_eq (p : Flags) (reg m : Byte) :
    p.compare reg m =
      nz { p with c := decide (m.toNat ≤ reg.toNat) } (BitVec.ofInt 8 ((reg.toNat : Int) - (m.toNat : Int))) := by
  have hdiff : reg - m = BitVec.ofInt 8 ((reg.toNat : Int) - (m.toNat : Int)) := by
    apply BitVec.eq_of_toNat_eq
    rw [BitVec.toNat_sub, BitVec.toNat_ofInt]
    have := reg.isLt
    have := m.isLt
    omega
  rw [← hdiff]
  rfl

theorem State.compareA_advance_stall (s : State) (m : Byte) (len cost : Nat) :
    (State.compareA m (s.advance len)).stall cost = afterCompare s.a s m len cost := by
  rw [afterCompare, ← Flags.compare_eq]
  rfl

theorem State.compareX_advance_stall (s : State) (m : Byte) (len cost : Nat) :
    (State.compareX m (s.advance len)).stall cost = afterCompare s.x s m len cost := by
  rw [afterCompare, ← Flags.compare_eq]
  rfl

theorem State.compareY_advance_stall (s : State) (m : Byte) (len cost : Nat) :
    (State.compareY m (s.advance len)).stall cost = afterCompare s.y s m len cost := by
  rw [afterCompare, ← Flags.compare_eq]
  rfl

/-! ### The eight forms of a class R instruction on A -/

/-- Eight class R instructions with one effect have the eight forms: their base costs and operands are those of the
modes, and the encoder gives each its opcode, which for given instructions is by computation. -/
theorem eightForms_of_readExec {imm zp zpX abs absX absY indX indY : Byte} {iImm iZp iZpX : Byte → Instr}
    {iAbs iAbsX iAbsY : Addr → Instr} {iIndX iIndY : Byte → Instr} {s : State} {f : Byte → State → State}
    {after : Byte → Nat → Nat → State}
    (hafter : ∀ m len cost, (f m (s.advance len)).stall cost = after m len cost)
    (hImm : ∀ v, exec (iImm v) s = readExec (.imm v) 2 f s)
    (hZp : ∀ z, exec (iZp z) s = readExec (.mem (.zp z)) 3 f s)
    (hZpX : ∀ z, exec (iZpX z) s = readExec (.mem (.zpX z)) 4 f s)
    (hAbs : ∀ w, exec (iAbs w) s = readExec (.mem (.abs w)) 4 f s)
    (hAbsX : ∀ w, exec (iAbsX w) s = readExec (.mem (.absX w)) 4 f s)
    (hAbsY : ∀ w, exec (iAbsY w) s = readExec (.mem (.absY w)) 4 f s)
    (hIndX : ∀ z, exec (iIndX z) s = readExec (.mem (.indX z)) 6 f s)
    (hIndY : ∀ z, exec (iIndY z) s = readExec (.mem (.indY z)) 5 f s)
    (hbytes : (∀ v, encode (iImm v) = [imm, v]) ∧ (∀ z, encode (iZp z) = [zp, z]) ∧
      (∀ z, encode (iZpX z) = [zpX, z]) ∧ (∀ w, encode (iAbs w) = withWord abs w) ∧
      (∀ w, encode (iAbsX w) = withWord absX w) ∧ (∀ w, encode (iAbsY w) = withWord absY w) ∧
      (∀ z, encode (iIndX z) = [indX, z]) ∧ (∀ z, encode (iIndY z) = [indY, z]) := by
        and_intros <;> intro <;> rfl) :
    EightForms imm zp zpX abs absX absY indX indY iImm iZp iZpX iAbs iAbsX iAbsY iIndX iIndY s after := by
  obtain ⟨bImm, bZp, bZpX, bAbs, bAbsX, bAbsY, bIndX, bIndY⟩ := hbytes
  exact ⟨fun v => readForm_of_readExec hafter (hImm v) (bImm v) rfl,
    fun z => readForm_of_readExec hafter (hZp z) (bZp z) rfl,
    fun z => readForm_of_readExec hafter (hZpX z) (bZpX z) rfl,
    fun lo hi => readForm_of_readExec hafter (hAbs _) ((bAbs _).trans (withWord_concat abs lo hi)) rfl,
    fun lo hi => readForm_of_readExec hafter (hAbsX _) ((bAbsX _).trans (withWord_concat absX lo hi)) rfl,
    fun lo hi => readForm_of_readExec hafter (hAbsY _) ((bAbsY _).trans (withWord_concat absY lo hi)) rfl,
    fun z => readForm_of_readExec hafter (hIndX z) (bIndX z) rfl,
    fun z => readForm_of_readExec hafter (hIndY z) (bIndY z) rfl⟩

/-! ### Class M forms in memory (`41_addressing.md` R136) and the step by 1 (R197 to R202) -/

/-- A class M instruction has a form: only the bus write reaches memory, and no register other than PC changes. -/
theorem modifyForm_of_modifyExec {bytes : List Byte} {i : Instr} {cycles : Nat} {s : State} {m : MemMode}
    {f : Flags → Byte → Byte × Flags} (hexec : exec i s = modifyExec m cycles f s) (hbytes : encode i = bytes)
    (hlen : 1 + m.operandBytes = bytes.length) : ModifyForm bytes i m cycles f s := by
  refine ⟨_, form_of_encode hbytes (hexec.trans ((modifyExec_next m cycles f s _).2 rfl)),
    ⟨rfl, rfl, rfl, rfl, rfl⟩, rfl, ?_, rfl, s.write_oneByteStored (m.ea s) _⟩
  rw [← hlen]
  rfl

theorem byte_pred_eq_ofNat (b : Byte) : b - 1 = BitVec.ofNat 8 (b.toNat + 255) := by
  apply BitVec.eq_of_toNat_eq
  rw [BitVec.toNat_sub, BitVec.toNat_ofNat, Nat.add_comm]
  rfl

theorem Flags.inc_eq_incByte : Flags.inc = incByte := by
  funext p v
  rw [incByte, ← byte_succ_eq_ofNat]
  rfl

theorem Flags.dec_eq_decByte : Flags.dec = decByte := by
  funext p v
  rw [decByte, ← byte_pred_eq_ofNat]
  rfl

/-! ### ADC and SBC under `DECIMAL_ARITH` (R203) -/

/-- `s` with the flag D. -/
def State.setD (s : State) (flag : Bool) : State := s.setP { s.p with d := flag }

theorem Operand.value_setP (s : State) (o : Operand) (q : Flags) : o.value (s.setP q) = o.value s := by
  cases o with
  | imm v => rfl
  | mem m => cases m <;> rfl

theorem Operand.penalty_setP (s : State) (o : Operand) (q : Flags) : o.penalty (s.setP q) = o.penalty s := by
  cases o with
  | imm v => rfl
  | mem m => cases m <;> rfl

/-- A class R instruction whose effect does not look at D does not either. -/
theorem readExec_setD {o : Operand} {cycles : Nat} {f : Byte → State → State} {s t : State} {flag : Bool}
    (hf : ∀ m u, f m (u.setD flag) = (f m u).setD flag) (h : readExec o cycles f s = .next t) :
    readExec o cycles f (s.setD flag) = .next (t.setD flag) := by
  have hvalue : o.value (s.setD flag) = o.value s := Operand.value_setP s o _
  have hpenalty : o.penalty (s.setD flag) = o.penalty s := Operand.penalty_setP s o _
  rw [readExec_next] at h ⊢
  rw [h, hvalue, hpenalty]
  exact congrArg (State.stall · (cycles + o.penalty s)) (hf _ (s.advance _)).symm

theorem execWith_adc {i : Instr} (hi : isAdc i = true) :
    ∃ o cycles, ∀ par s, execWith par i s = adcWith par.decimalArith o cycles s := by
  cases i with
  | adcImm | adcZp | adcZpX | adcAbs | adcAbsX | adcAbsY | adcIndX | adcIndY => exact ⟨_, _, fun _ _ => rfl⟩
  | _ => cases hi

theorem execWith_sbc {i : Instr} (hi : isSbc i = true) :
    ∃ o cycles, ∀ par s, execWith par i s = sbcWith par.decimalArith o cycles s := by
  cases i with
  | sbcImm | sbcZp | sbcZpX | sbcAbs | sbcAbsX | sbcAbsY | sbcIndX | sbcIndY => exact ⟨_, _, fun _ _ => rfl⟩
  | _ => cases hi

/-- ADC and SBC are class R instructions whose effect does not look at D, but for the refusal. -/
theorem execWith_adc_or_sbc {i : Instr} (hi : (isAdc i || isSbc i) = true) :
    ∃ o cycles, ∃ f : Byte → State → State, (∀ flag m u, f m (u.setD flag) = (f m u).setD flag) ∧
      ∀ par s, execWith par i s =
        if par.decimalArith && s.p.d then .refused .decimalArithmetic else readExec o cycles f s := by
  rcases (Bool.or_eq_true _ _).mp hi with hadc | hsbc
  · obtain ⟨o, cycles, h⟩ := execWith_adc hadc
    exact ⟨o, cycles, State.addA, fun _ _ _ => rfl, h⟩
  · obtain ⟨o, cycles, h⟩ := execWith_sbc hsbc
    exact ⟨o, cycles, State.subA, fun _ _ _ => rfl, h⟩

/-- With DECIMAL_ARITH, D decides between the refusal and the instruction of the default core. -/
theorem execWith_decimalArith {i : Instr} (hi : (isAdc i || isSbc i) = true) {par : Params}
    (hpar : par.decimalArith = true) (s : State) :
    execWith par i s = if s.p.d then .refused .decimalArithmetic else exec i s := by
  obtain ⟨o, cycles, f, -, h⟩ := execWith_adc_or_sbc hi
  have hexec : exec i s = readExec o cycles f s := (execWith_default i s).symm.trans (h Config.params s)
  rw [h, hpar, Bool.true_and, hexec]

theorem execWith_refused {i : Instr} {par : Params} {s : State} (hi : (isAdc i || isSbc i) = true)
    (hpar : par.decimalArith = true) (hd : s.p.d = true) : execWith par i s = .refused .decimalArithmetic := by
  rw [execWith_decimalArith hi hpar, if_pos hd]

end Sys2Proof.Machine

namespace Sys2Proof.Proofs

open Sys2Proof.Machine Sys2Proof.Stmt

/-- Settles O37: V by the signs of the operands and the result, C by the size of the sum. -/
theorem overflowIsTheSignedRange : Obligations.OverflowIsTheSignedRange := fun p a m =>
  ⟨p.addWithCarry_v_iff a m, p.addWithCarry_carry_result a m⟩

/-- Settles O35: each form is a class R instruction with the effect `State.addA`, refused only under DECIMAL_ARITH. -/
theorem adcAddsWithCarry : Obligations.AdcAddsWithCarry := fun s =>
  ⟨eightForms_of_readExec s.addA_advance_stall (exec_adcImm · s) (exec_adcZp · s) (exec_adcZpX · s)
      (exec_adcAbs · s) (exec_adcAbsX · s) (exec_adcAbsY · s) (exec_adcIndX · s) (exec_adcIndY · s),
    fun _ _ hi => execWith_refused (Bool.or_eq_true_iff.2 (.inl hi))⟩

/-- Settles O36: as O35, with the effect `State.subA`, on integers by `Flags.subWithBorrow_eq`. -/
theorem sbcSubtractsWithBorrow : Obligations.SbcSubtractsWithBorrow := by
  refine ⟨fun s => ⟨?forms, fun _ _ hi => execWith_refused (Bool.or_eq_true_iff.2 (.inr hi))⟩,
    fun p a m => ?complement⟩
  case forms =>
    exact eightForms_of_readExec s.subA_advance_stall (exec_sbcImm · s) (exec_sbcZp · s) (exec_sbcZpX · s)
      (exec_sbcAbs · s) (exec_sbcAbsX · s) (exec_sbcAbsY · s) (exec_sbcIndX · s) (exec_sbcIndY · s)
  case complement =>
    have hnot : 0xFF ^^^ m = ~~~m := BitVec.allOnes_xor
    rw [hnot, Flags.subWithBorrow]

/-- Settles O38: each form is a class R instruction that compares its register and writes only flags. -/
theorem comparesSetCZNOnly : Obligations.ComparesSetCZNOnly := fun s =>
  ⟨eightForms_of_readExec s.compareA_advance_stall (exec_cmpImm · s) (exec_cmpZp · s) (exec_cmpZpX · s)
      (exec_cmpAbs · s) (exec_cmpAbsX · s) (exec_cmpAbsY · s) (exec_cmpIndX · s) (exec_cmpIndY · s),
    fun v => readForm_of_readExec s.compareX_advance_stall (exec_cpxImm v s) rfl rfl,
    fun z => readForm_of_readExec s.compareX_advance_stall (exec_cpxZp z s) rfl rfl,
    fun lo hi => readForm_of_readExec s.compareX_advance_stall (exec_cpxAbs _ s) (withWord_concat _ lo hi) rfl,
    fun v => readForm_of_readExec s.compareY_advance_stall (exec_cpyImm v s) rfl rfl,
    fun z => readForm_of_readExec s.compareY_advance_stall (exec_cpyZp z s) rfl rfl,
    fun lo hi => readForm_of_readExec s.compareY_advance_stall (exec_cpyAbs _ s) (withWord_concat _ lo hi) rfl⟩

/-- Settles O39: each form is a class M instruction in memory, with `Flags.inc` and `Flags.dec` on numbers. -/
theorem incAndDecModifyMemory : Obligations.IncAndDecModifyMemory := by
  intro s
  rw [← Flags.inc_eq_incByte, ← Flags.dec_eq_decByte]
  exact ⟨fun z => modifyForm_of_modifyExec (exec_incZp z s) rfl rfl,
    fun z => modifyForm_of_modifyExec (exec_incZpX z s) rfl rfl,
    fun lo hi => modifyForm_of_modifyExec (exec_incAbs _ s) (withWord_concat _ lo hi) rfl,
    fun lo hi => modifyForm_of_modifyExec (exec_incAbsX _ s) (withWord_concat _ lo hi) rfl,
    fun z => modifyForm_of_modifyExec (exec_decZp z s) rfl rfl,
    fun z => modifyForm_of_modifyExec (exec_decZpX z s) rfl rfl,
    fun lo hi => modifyForm_of_modifyExec (exec_decAbs _ s) (withWord_concat _ lo hi) rfl,
    fun lo hi => modifyForm_of_modifyExec (exec_decAbsX _ s) (withWord_concat _ lo hi) rfl⟩

/-- Settles O40: each is a load of the index register with its successor or predecessor. -/
theorem indexIncrementsAndDecrements : Obligations.IndexIncrementsAndDecrements := by
  intro s
  simp only [← byte_succ_eq_ofNat, ← byte_pred_eq_ofNat]
  exact ⟨twoCycleForm_of_impliedExec (exec_inx s) rfl (s.loadX_advance_stall (s.x + 1) 1 2),
    twoCycleForm_of_impliedExec (exec_iny s) rfl (s.loadY_advance_stall (s.y + 1) 1 2),
    twoCycleForm_of_impliedExec (exec_dex s) rfl (s.loadX_advance_stall (s.x - 1) 1 2),
    twoCycleForm_of_impliedExec (exec_dey s) rfl (s.loadY_advance_stall (s.y - 1) 1 2)⟩

/-- Settles O58: the effects of ADC and SBC do not look at D; the refusal does, only under DECIMAL_ARITH. -/
theorem decimalArithmeticIsRefusedOrAbsent : Obligations.DecimalArithmeticIsRefusedOrAbsent := by
  refine ⟨fun i s hi => ⟨fun par hpar flag t ht => ?binary, fun par hpar => execWith_decimalArith hi hpar s⟩, rfl⟩
  case binary =>
    obtain ⟨o, cycles, f, hf, h⟩ := execWith_adc_or_sbc hi
    have hbinary : ∀ u, execWith par i u = readExec o cycles f u := fun u => by
      rw [h, hpar, Bool.false_and, if_neg Bool.false_ne_true]
    rw [hbinary] at ht ⊢
    exact readExec_setD (hf flag) ht

end Sys2Proof.Proofs
end

section
/-! PROOFS of the family `46_logic_shift.md`: the shifts and rotates on numbers and in every form, nine rotations
through C, and the logic and bit test instructions as class R instructions. -/

/-! ### The shifts and rotates on numbers (`46_logic_shift.md` R225 to R228) -/

namespace Sys2Proof.Machine

open Sys2Proof.Stmt

theorem bit7_eq_decide (v : Byte) : bit7 v = decide (128 ≤ v.toNat) :=
  v.msb_eq_getLsbD_last.symm.trans v.msb_eq_decide

theorem bit0_eq_decide (v : Byte) : bit0 v = decide (v.toNat % 2 = 1) := by
  rw [bit0, getLsbD_eq_decide, pow_zero, Nat.div_one]

theorem bitAt_eq_ofNat (f : Bool) (k : Nat) : bitAt f k = BitVec.ofNat 8 (bitNat f <<< k) := by
  cases f with
  | false => exact congrArg (BitVec.ofNat 8) (Nat.zero_shiftLeft k).symm
  | true => rfl

/-- A byte moved up and a flag at bit 0 have no bit in common: their union is their sum. -/
theorem shiftLeft_or_bitAt_eq_ofNat (v : Byte) (f : Bool) :
    v <<< 1 ||| bitAt f 0 = BitVec.ofNat 8 (2 * v.toNat + bitNat f) := by
  have hf : bitNat f < 2 ^ 1 := Nat.lt_succ_of_le (bitNat_le_one f)
  have hv : v <<< 1 = BitVec.ofNat 8 (v.toNat <<< 1) := rfl
  rw [hv, bitAt_eq_ofNat, Nat.shiftLeft_zero, ← BitVec.ofNat_or, ← Nat.shiftLeft_add_eq_or_of_lt hf,
    Nat.shiftLeft_eq, Nat.mul_comm, pow_one]

/-- The same with the byte moved down, whose bit 7 is free. -/
theorem shiftRight_or_bitAt_eq_ofNat (v : Byte) (f : Bool) :
    v >>> 1 ||| bitAt f 7 = BitVec.ofNat 8 (v.toNat / 2 + 128 * bitNat f) := by
  have hlt : v.toNat / 2 < 2 ^ 7 := Nat.div_lt_of_lt_mul v.isLt
  have hv : v >>> 1 = BitVec.ofNat 8 (v.toNat / 2) := (BitVec.ofNat_toNat 8 (v >>> 1)).symm
  rw [hv, bitAt_eq_ofNat, ← BitVec.ofNat_or, Nat.or_comm, ← Nat.shiftLeft_add_eq_or_of_lt hlt,
    Nat.shiftLeft_eq, Nat.mul_comm, Nat.add_comm]

theorem byte_shiftLeft_one_eq_ofNat (v : Byte) : v <<< 1 = BitVec.ofNat 8 (2 * v.toNat) :=
  BitVec.or_zero.symm.trans (shiftLeft_or_bitAt_eq_ofNat v false)

theorem byte_shiftRight_one_eq_ofNat (v : Byte) : v >>> 1 = BitVec.ofNat 8 (v.toNat / 2) :=
  BitVec.or_zero.symm.trans (shiftRight_or_bitAt_eq_ofNat v false)

theorem Flags.asl_eq_aslByte : Flags.asl = aslByte := by
  funext p v
  rw [aslByte, ← bit7_eq_decide, ← byte_shiftLeft_one_eq_ofNat]
  rfl

/-- The result is below 128, so N is clear, and it is 0 for 0 and 1 alone. -/
theorem Flags.lsr_eq_lsrByte : Flags.lsr = lsrByte := by
  funext p v
  have hz : (v >>> 1 == 0) = decide (v.toNat < 2) := by
    rw [Bool.eq_iff_iff, beq_iff_eq, decide_eq_true_iff, ← BitVec.toNat_inj, BitVec.toNat_ushiftRight]
    exact Nat.div_eq_zero_iff_lt two_pos
  have hn : bit7 (v >>> 1) = false :=
    (BitVec.getLsbD_ushiftRight v 1 7).trans (v.getLsbD_of_ge 8 le_rfl)
  rw [lsrByte, ← bit0_eq_decide, ← byte_shiftRight_one_eq_ofNat, ← hz, ← hn]
  rfl

theorem Flags.rol_eq_rolByte : Flags.rol = rolByte := by
  funext p v
  rw [rolByte, ← bit7_eq_decide, ← shiftLeft_or_bitAt_eq_ofNat]
  rfl

theorem Flags.ror_eq_rorByte : Flags.ror = rorByte := by
  funext p v
  rw [rorByte, ← bit0_eq_decide, ← shiftRight_or_bitAt_eq_ofNat]
  rfl

/-! ### Accumulator forms (`41_addressing.md` R132, `46_logic_shift.md` R224) -/

/-- An accumulator form writes A, the flags, PC and the cost 2, and nothing else. -/
theorem accForm_of_accExec {opcode : Byte} {i : Instr} {f : Flags → Byte → Byte × Flags} {s : State}
    (hexec : exec i s = accExec 2 f s) (hbytes : encode i = [opcode]) : AccForm opcode i f s :=
  form_of_encode hbytes (hexec.trans ((accExec_next 2 f s _).2 rfl))

/-! ### Rotation through C (R227, R228) -/

/-- The nine bits a rotation moves: C above A. -/
def State.carryA (s : State) : BitVec 9 := BitVec.cons s.p.c s.a

theorem State.carryA_eq_iff {s t : State} : t.carryA = s.carryA ↔ t.a = s.a ∧ t.p.c = s.p.c := by
  refine ⟨fun h => ⟨?_, ?_⟩, fun ⟨ha, hc⟩ => by rw [carryA, carryA, ha, hc]⟩
  · simpa [carryA] using congrArg (BitVec.setWidth 8) h
  · simpa [carryA] using congrArg BitVec.msb h

theorem Flags.rol_rotates (p : Flags) (v : Byte) :
    BitVec.cons (p.rol v).2.c (p.rol v).1 = (BitVec.cons p.c v).rotateLeft 1 := by
  refine BitVec.eq_of_getLsbD_eq fun j hj => ?_
  simp only [rol_c, rol_result, BitVec.getLsbD_cons, BitVec.getLsbD_rotateLeft, BitVec.getLsbD_or, bitAt_getLsbD]
  interval_cases j <;> simp [bit7]

theorem Flags.ror_rotates (p : Flags) (v : Byte) :
    BitVec.cons (p.ror v).2.c (p.ror v).1 = (BitVec.cons p.c v).rotateRight 1 := by
  refine BitVec.eq_of_getLsbD_eq fun j hj => ?_
  simp only [ror_c, ror_result, BitVec.getLsbD_cons, BitVec.getLsbD_rotateRight, BitVec.getLsbD_or, bitAt_getLsbD]
  interval_cases j <;> simp [bit0]

theorem rotateLeft_zero {w : Nat} (x : BitVec w) : x.rotateLeft 0 = x := by
  refine BitVec.eq_of_getMsbD_eq fun j hj => ?_
  simp [BitVec.getMsbD_rotateLeft, hj, Nat.mod_eq_of_lt]

theorem iterate_rotateLeft_one {w : Nat} (k : Nat) (x : BitVec w) :
    (BitVec.rotateLeft · 1)^[k] x = x.rotateLeft k := by
  induction k with
  | zero => exact (rotateLeft_zero x).symm
  | succ k ih =>
    rw [Function.iterate_succ_apply', ih]
    refine BitVec.eq_of_getMsbD_eq fun j hj => ?_
    have hlt : (1 + j) % w < w := Nat.mod_lt _ (by omega)
    simp [BitVec.getMsbD_rotateLeft, hj, hlt, Nat.add_assoc]

/-- One turn left undoes one turn right. -/
theorem rotateLeft_rotateRight_one :
    Function.LeftInverse (fun x : BitVec 9 => x.rotateLeft 1) (BitVec.rotateRight · 1) := by
  intro x
  refine BitVec.eq_of_getLsbD_eq fun j hj => ?_
  simp only [BitVec.getLsbD_rotateLeft, BitVec.getLsbD_rotateRight]
  interval_cases j <;> rfl

theorem iterate_rotateLeft_width {w : Nat} (x : BitVec w) : (BitVec.rotateLeft · 1)^[w] x = x := by
  rw [iterate_rotateLeft_one, ← BitVec.rotateLeft_mod_eq_rotateLeft, Nat.mod_self, rotateLeft_zero]

theorem iterate_rotateRight_nine (x : BitVec 9) : (BitVec.rotateRight · 1)^[9] x = x :=
  (iterate_rotateLeft_width _).symm.trans (rotateLeft_rotateRight_one.iterate 9 x)

/-- Runs of an accumulator form that rotates C above A one way: each completes and rotates once. -/
theorem execTimes_accExec {i : Instr} {f : Flags → Byte → Byte × Flags} {rot : BitVec 9 → BitVec 9}
    (hexec : ∀ s, exec i s = accExec 2 f s)
    (hrot : ∀ p v, BitVec.cons (f p v).2.c (f p v).1 = rot (BitVec.cons p.c v)) (n : Nat) (s : State) :
    ∃ t, execTimes n i s = some t ∧ t.carryA = rot^[n] s.carryA := by
  induction n generalizing s with
  | zero => exact ⟨s, rfl, rfl⟩
  | succ n ih =>
    obtain ⟨t, ht, hbits⟩ := ih ((((s.advance 1).setA (f s.p s.a).1).setP (f s.p s.a).2).stall 2)
    refine ⟨t, ?_, hbits.trans (congrArg rot^[n] (hrot s.p s.a))⟩
    rw [execTimes, hexec, (accExec_next 2 f s _).2 rfl]
    exact ht

/-! ### The effects of the logic and bit test instructions (R220 to R223) -/

theorem State.andA_advance_stall (s : State) (m : Byte) (len cost : Nat) :
    (State.andA m (s.advance len)).stall cost = afterLdA s (s.a &&& m) len cost := rfl

theorem State.orA_advance_stall (s : State) (m : Byte) (len cost : Nat) :
    (State.orA m (s.advance len)).stall cost = afterLdA s (s.a ||| m) len cost := rfl

theorem State.eorA_advance_stall (s : State) (m : Byte) (len cost : Nat) :
    (State.eorA m (s.advance len)).stall cost = afterLdA s (s.a ^^^ m) len cost := rfl

theorem State.bitA_advance_stall (s : State) (m : Byte) (len cost : Nat) :
    (State.bitA m (s.advance len)).stall cost = afterBit s m len cost := rfl

end Sys2Proof.Machine

namespace Sys2Proof.Proofs

open Sys2Proof.Machine Sys2Proof.Stmt

/-- Settles O43: each form is an accumulator form or a class M instruction, with the four shifts on numbers. -/
theorem shiftsAndRotates : Obligations.ShiftsAndRotates := by
  intro s
  rw [← Flags.asl_eq_aslByte, ← Flags.lsr_eq_lsrByte, ← Flags.rol_eq_rolByte, ← Flags.ror_eq_rorByte]
  exact ⟨accForm_of_accExec (exec_aslAcc s) rfl,
    fun z => modifyForm_of_modifyExec (exec_aslZp z s) rfl rfl,
    fun z => modifyForm_of_modifyExec (exec_aslZpX z s) rfl rfl,
    fun lo hi => modifyForm_of_modifyExec (exec_aslAbs _ s) (withWord_concat _ lo hi) rfl,
    fun lo hi => modifyForm_of_modifyExec (exec_aslAbsX _ s) (withWord_concat _ lo hi) rfl,
    accForm_of_accExec (exec_lsrAcc s) rfl,
    fun z => modifyForm_of_modifyExec (exec_lsrZp z s) rfl rfl,
    fun z => modifyForm_of_modifyExec (exec_lsrZpX z s) rfl rfl,
    fun lo hi => modifyForm_of_modifyExec (exec_lsrAbs _ s) (withWord_concat _ lo hi) rfl,
    fun lo hi => modifyForm_of_modifyExec (exec_lsrAbsX _ s) (withWord_concat _ lo hi) rfl,
    accForm_of_accExec (exec_rolAcc s) rfl,
    fun z => modifyForm_of_modifyExec (exec_rolZp z s) rfl rfl,
    fun z => modifyForm_of_modifyExec (exec_rolZpX z s) rfl rfl,
    fun lo hi => modifyForm_of_modifyExec (exec_rolAbs _ s) (withWord_concat _ lo hi) rfl,
    fun lo hi => modifyForm_of_modifyExec (exec_rolAbsX _ s) (withWord_concat _ lo hi) rfl,
    accForm_of_accExec (exec_rorAcc s) rfl,
    fun z => modifyForm_of_modifyExec (exec_rorZp z s) rfl rfl,
    fun z => modifyForm_of_modifyExec (exec_rorZpX z s) rfl rfl,
    fun lo hi => modifyForm_of_modifyExec (exec_rorAbs _ s) (withWord_concat _ lo hi) rfl,
    fun lo hi => modifyForm_of_modifyExec (exec_rorAbsX _ s) (withWord_concat _ lo hi) rfl⟩

/-- Settles O44: C above A is a word of nine bits that ROL A turns left and ROR A right, and nine turns left are none;
ROL undoes ROR, so nine turns right are none either. -/
theorem nineRolsRestore : Obligations.NineRolsRestore := by
  intro s
  obtain ⟨t, ht, hbits⟩ := execTimes_accExec (rot := (BitVec.rotateLeft · 1)) exec_rolAcc Flags.rol_rotates 9 s
  obtain ⟨u, hu, hbits'⟩ := execTimes_accExec (rot := (BitVec.rotateRight · 1)) exec_rorAcc Flags.ror_rotates 9 s
  rw [iterate_rotateLeft_width, State.carryA_eq_iff] at hbits
  rw [iterate_rotateRight_nine, State.carryA_eq_iff] at hbits'
  exact ⟨⟨t, ht, hbits⟩, u, hu, hbits'⟩

/-- Settles O41: each form is a class R instruction that loads A with the combination of A and the operand. -/
theorem logicOnTheAccumulator : Obligations.LogicOnTheAccumulator := fun s =>
  ⟨eightForms_of_readExec s.andA_advance_stall (exec_andImm · s) (exec_andZp · s) (exec_andZpX · s)
      (exec_andAbs · s) (exec_andAbsX · s) (exec_andAbsY · s) (exec_andIndX · s) (exec_andIndY · s),
    eightForms_of_readExec s.orA_advance_stall (exec_oraImm · s) (exec_oraZp · s) (exec_oraZpX · s)
      (exec_oraAbs · s) (exec_oraAbsX · s) (exec_oraAbsY · s) (exec_oraIndX · s) (exec_oraIndY · s),
    eightForms_of_readExec s.eorA_advance_stall (exec_eorImm · s) (exec_eorZp · s) (exec_eorZpX · s)
      (exec_eorAbs · s) (exec_eorAbsX · s) (exec_eorAbsY · s) (exec_eorIndX · s) (exec_eorIndY · s)⟩

/-- Settles O42: both forms are class R instructions whose effect is on the flags alone. -/
theorem bitTestsTheMemoryOperand : Obligations.BitTestsTheMemoryOperand := fun s =>
  ⟨fun z => readForm_of_readExec s.bitA_advance_stall (exec_bitZp z s) rfl rfl,
    fun lo hi => readForm_of_readExec s.bitA_advance_stall (exec_bitAbs _ s) (withWord_concat _ lo hi) rfl⟩

end Sys2Proof.Proofs
end

section
/-! PROOFS of the family `47_control.md`: the conditional branches, JSR and RTS, and the return of a call. -/

/-! ### MaybeBranch (R250) -/

namespace Sys2Proof.Machine

open Sys2Proof.Stmt

/-- `pending` after a taken branch: 2 on the page of `next`, 3 on another. -/
theorem takenBranch_pending (p q : Addr) :
    2 + 1 + bitNat (pageCrossed p q) - 1 = if p.toNat / 256 = q.toNat / 256 then 2 else 3 := by
  rw [bitNat_pageCrossed, crossing]
  split_ifs <;> rfl

/-- An instruction that runs `branchExec` at the base cost 2 is a conditional branch on the same condition. -/
theorem branchForm_of_branchExec {opcode : Byte} {i : Byte → Instr} {cond : State → Bool}
    (hexec : ∀ d s, exec (i d) s = branchExec 2 (cond s) d s) (hbytes : ∀ d, encode (i d) = [opcode, d]) :
    BranchForm opcode i cond := by
  intro s d
  refine form_of_encode (hbytes d) ?_
  rw [hexec, branchExec_next, ← State.branchTarget_eq]
  cases cond s with
  | false => exact .inr ⟨rfl, rfl⟩
  | true =>
    have hpending := takenBranch_pending s.branchNext (s.branchTarget d)
    exact .inl ⟨rfl, congrArg (s.setPc (s.branchTarget d)).setPending hpending.symm⟩

/-! ### Push16 and Pop16 (`44_stack.md` R173, R174) -/

theorem concat_eq_ofNat (hi lo : Byte) : concat hi lo = BitVec.ofNat 16 (256 * hi.toNat + lo.toNat) := by
  rw [Nat.mul_comm, ← concat_toNat, BitVec.ofNat_toNat, BitVec.setWidth_eq]

theorem State.pop16_value_eq_stackedWord (s : State) : s.pop16.1 = stackedWord s (s.sp + 1) := by
  rw [State.pop16_value, concat_eq_ofNat, stackAddr_eq_stackCell, stackAddr_eq_stackCell, stackedWord]

/-- Each push stores one byte, and the two cells are different at every SP. -/
theorem State.push16_wordPushed (s : State) (w : Addr) : WordPushed s (s.push16 w) w := by
  intro b
  have hhigh := s.push_oneByteStored (highByte w) b
  have hlow := (s.push (highByte w)).push_oneByteStored (lowByte w) b
  have hne : resolve (stackCell s.sp) ≠ resolve (stackCell (s.sp - 1)) := by
    rw [← stackAddr_eq_stackCell, ← stackAddr_eq_stackCell, ne_eq, resolve_stackAddr_inj]
    have hoffset : s.sp - 0#8 ≠ s.sp - 1 := stackOffset_ne s.sp (m := 0) (n := 1) (by decide) (by decide)
    rwa [BitVec.sub_zero] at hoffset
  rw [State.push16, hlow, hhigh, ← highByte_eq_ofNat, ← lowByte_eq_ofNat, State.push_sp]
  by_cases hb : resolve b = resolve (stackCell s.sp)
  · rw [if_neg (hb.trans_ne hne), if_pos hb, if_pos hb]
  · rw [if_neg hb, if_neg hb]

/-- A pushed word is popped whole, at every SP. -/
theorem State.push16_pop16_value (s : State) (w : Addr) : (s.push16 w).pop16.1 = w :=
  have hroom : outstanding [.word w] ≤ 256 := Nat.le_of_ble_eq_true rfl
  HoldsItems.pop16_value (HoldsItems.push16 (holdsBytes_nil s) w hroom)

/-- The state after JSR (`47_control.md` R261). -/
def State.afterJsr (s : State) (target : Addr) : State := ((s.advance 2).call target).stall 6

theorem State.afterJsr_wordPushed (s : State) (target : Addr) : WordPushed s (s.afterJsr target) (s.pc + 2) :=
  (s.advance 2).push16_wordPushed (s.pc + 2)

end Sys2Proof.Machine

namespace Sys2Proof.Proofs

open Sys2Proof.Machine Sys2Proof.Stmt

/-- Settles O45: every branch runs `branchExec` on its own condition. -/
theorem branchesTestOneFlag : Obligations.BranchesTestOneFlag :=
  ⟨branchForm_of_branchExec exec_bcc fun _ => rfl,
    branchForm_of_branchExec exec_bcs fun _ => rfl,
    branchForm_of_branchExec exec_beq fun _ => rfl,
    branchForm_of_branchExec exec_bne fun _ => rfl,
    branchForm_of_branchExec exec_bmi fun _ => rfl,
    branchForm_of_branchExec exec_bpl fun _ => rfl,
    branchForm_of_branchExec exec_bvc fun _ => rfl,
    branchForm_of_branchExec exec_bvs fun _ => rfl⟩

/-- Settles O48: RTS pops the stacked word and adds 1 to it. -/
theorem rtsReturnsPastTheStackedAddress : Obligations.RtsReturnsPastTheStackedAddress := by
  intro s
  have hsp : s.sp + 1 + 1 = s.sp + 2 := BitVec.add_assoc s.sp 1 1
  refine form_of_encode rfl ?_
  rw [exec_rts, impliedExec_next, ← State.pop16_value_eq_stackedWord, ← hsp]
  rfl

/-- Settles O47: with PC at the last byte of the instruction, JSR is a Push16 and a write of PC. -/
theorem jsrPushesItsLastByteAddress : Obligations.JsrPushesItsLastByteAddress := by
  intro s lo hi
  have hsp : s.sp - 1 - 1 = s.sp - 2 := BitVec.sub_sub s.sp 1 1
  refine ⟨s.afterJsr (concat hi lo), form_of_encode (withWord_concat 0x20 lo hi) (exec_jsr _ s), ?_⟩
  simpa [State.afterJsr] using And.intro hsp (s.afterJsr_wordPushed (concat hi lo))

/-- Settles O49: RTS pops the word that JSR pushed, the address of the last byte of the JSR. -/
theorem jsrThenRtsReturns : Obligations.JsrThenRtsReturns := by
  intro s w
  refine ⟨s.afterJsr w, ((s.afterJsr w).advance 1).returnSub.stall 6, exec_jsr w s, exec_rts _, ?pc, ?registers,
    ?flags⟩
  case pc =>
    have hpop : ((s.afterJsr w).advance 1).pop16.1 = s.pc + 2 := by
      simpa [State.afterJsr] using (s.advance 2).push16_pop16_value (s.pc + 2)
    rw [State.stall_pc, State.returnSub_pc, hpop]
    exact BitVec.add_assoc s.pc 2 1
  case registers => simp [SameRegisters, State.afterJsr]
  case flags => simp [State.afterJsr]

end Sys2Proof.Proofs
end

section
/-! PROOFS of the family `48_flags_system.md`: the flag instructions and NOP, the bytes BRK leaves on the stack, and
RTI. -/

namespace Sys2Proof.Machine

open Sys2Proof.Stmt

/-! ### The trap and its return (R288, R289) -/

/-- Fewer than 256 pushes reach as many different cells. -/
theorem resolve_stackCell_sub_ne (sp : Byte) {m n : Nat} (hlt : m < n) (hn : n < 256) :
    resolve (stackCell (sp - BitVec.ofNat 8 m)) ≠ resolve (stackCell (sp - BitVec.ofNat 8 n)) := by
  rw [← stackAddr_eq_stackCell, ← stackAddr_eq_stackCell, ne_eq, resolve_stackAddr_inj]
  exact stackOffset_ne sp hlt hn

/-- A push reaches the stack page alone, so it leaves what every address from 0x4000 on reads. -/
theorem State.push_read_of_high (s : State) (v : Byte) {b : Addr} (hb : 0x4000 ≤ b.toNat) :
    (s.push v).read b = s.read b := by
  have hne : resolve b ≠ resolve (stackCell s.sp) := by
    rw [ne_eq, resolve_eq_iff_of_high hb]
    intro h
    rw [h, stackCell_toNat] at hb
    omega
  rw [s.push_oneByteStored v b, if_neg hne]

/-- The trap saves three bytes; setting B before the last of them does not show in it, since bit 4 is 1 anyway. -/
theorem State.takeTrap_read_eq (s : State) (w b : Addr) :
    (s.takeTrap w).read b = ((s.push16 w).push (s.p.pack true)).read b := rfl

/-- Three pushes to three different cells: the word, then the status byte. -/
theorem State.takeTrap_read (s : State) (w b : Addr) :
    (s.takeTrap w).read b =
      if resolve b = resolve (stackCell s.sp) then BitVec.ofNat 8 (w.toNat / 256)
      else if resolve b = resolve (stackCell (s.sp - 1)) then BitVec.ofNat 8 (w.toNat % 256)
      else if resolve b = resolve (stackCell (s.sp - 2)) then statusByte s.p true
      else s.read b := by
  have hsp : s.sp - 1 - 1 = s.sp - 2 := BitVec.sub_sub s.sp 1 1
  have hfirst : resolve (stackCell (s.sp - 2)) ≠ resolve (stackCell s.sp) := by
    have hne := resolve_stackCell_sub_ne s.sp (m := 0) (n := 2) (by decide) (by decide)
    rw [BitVec.sub_zero] at hne
    exact hne.symm
  have hsecond : resolve (stackCell (s.sp - 2)) ≠ resolve (stackCell (s.sp - 1)) :=
    (resolve_stackCell_sub_ne s.sp (m := 1) (n := 2) (by decide) (by decide)).symm
  rw [takeTrap_read_eq, State.push_oneByteStored, push16_sp, hsp, Flags.pack_eq_statusByte, s.push16_wordPushed w b]
  by_cases hb : resolve b = resolve (stackCell (s.sp - 2))
  · rw [if_pos hb, if_neg (hb.trans_ne hfirst), if_neg (hb.trans_ne hsecond), if_pos hb]
  · rw [if_neg hb, if_neg hb]

/-- Control goes to the word the BRK vector held before the trap: no push reaches it. -/
@[simp] theorem State.takeTrap_pc (s : State) (w : Addr) :
    (s.takeTrap w).pc = concat (s.read 0xFFFF) (s.read 0xFFFE) := by
  have hkept : ∀ b : Addr, 0x4000 ≤ b.toNat → (s.takeTrap w).read b = s.read b := fun b hb => by
    rw [takeTrap_read_eq, push_read_of_high _ _ hb, push16, push_read_of_high _ _ hb, push_read_of_high _ _ hb]
  exact congrArg₂ concat (hkept 0xFFFF (by decide)) (hkept 0xFFFE (by decide))

/-- The trap as three pushes, then flags and PC that depend on the state before it alone. -/
theorem State.takeTrap_eq (s : State) (w : Addr) :
    s.takeTrap w =
      (((s.push16 w).push (s.p.pack true)).setP { s.p with b := true, i := true }).setPc
        (concat (s.read 0xFFFF) (s.read 0xFFFE)) := by
  rw [← s.takeTrap_pc w]
  rfl

/-- The state after BRK (R288). -/
def State.afterBrk (s : State) : State := ((s.advance 2).takeTrap (s.pc + 2)).stall 7

end Sys2Proof.Machine

namespace Sys2Proof.Proofs

open Sys2Proof.Machine Sys2Proof.Stmt

/-- Settles O50: each is an implied instruction that writes at most one flag. -/
theorem flagInstructionsAndNop : Obligations.FlagInstructionsAndNop := fun s =>
  ⟨twoCycleForm_of_impliedExec (exec_clc s) rfl rfl,
    twoCycleForm_of_impliedExec (exec_sec s) rfl rfl,
    twoCycleForm_of_impliedExec (exec_cli s) rfl rfl,
    twoCycleForm_of_impliedExec (exec_sei s) rfl rfl,
    twoCycleForm_of_impliedExec (exec_cld s) rfl rfl,
    twoCycleForm_of_impliedExec (exec_sed s) rfl rfl,
    twoCycleForm_of_impliedExec (exec_clv s) rfl rfl,
    twoCycleForm_of_impliedExec (exec_nop s) rfl rfl⟩

/-- Settles O51: the opcode decodes with any byte after it, and the trap is taken at the address past that byte. -/
theorem brkTakesTheTrap : Obligations.BrkTakesTheTrap := by
  intro s padding
  refine ⟨s.afterBrk, ⟨rfl, exec_brk s⟩, ?a, ?x, ?y, ?run, ?flags, ?sp, ?pc, rfl, ?cells⟩
  case sp =>
    have hsp : s.sp - 1 - 1 - 1 = s.sp - 3 := by rw [BitVec.sub_sub, BitVec.sub_sub]; rfl
    rw [State.afterBrk, State.stall_sp, State.takeTrap_sp, State.advance_sp, hsp]
  case cells =>
    intro b
    rw [State.afterBrk, State.stall_read, State.takeTrap_read]
    rfl
  all_goals simp [State.afterBrk]

/-- Settles O52: RTI pops the flags, then a word to which nothing is added. -/
theorem rtiRestoresFlagsAndPc : Obligations.RtiRestoresFlagsAndPc := by
  intro s
  have hsp : s.sp + 1 + 1 = s.sp + 2 := BitVec.add_assoc s.sp 1 1
  have hsp' : s.sp + 2 + 1 = s.sp + 3 := BitVec.add_assoc s.sp 2 1
  have hpc : stackedWord s (s.sp + 2) = (s.setSp (s.sp + 1)).pop16.1 := by
    rw [State.pop16_value_eq_stackedWord, State.setSp_sp, hsp]
    rfl
  refine form_of_encode rfl ?_
  rw [exec_rti, impliedExec_next, hpc, ← stackAddr_eq_stackCell, ← hsp', ← hsp]
  rfl

end Sys2Proof.Proofs
end

section
/-! PROOFS of the family `60_exceptions.md`: RTI after BRK, the one fault of a step, and the host operations on the
invariant. -/

/-! ### RTI after BRK (R305, R308) -/

namespace Sys2Proof.Machine

open Sys2Proof.Stmt

section

variable {base : Byte} {s t : State}

/-- What the stack holds depends on SP and memory alone. -/
theorem HoldsBytes.congr {bytes : List Byte} (h : HoldsBytes base s bytes) (hsp : t.sp = s.sp)
    (hread : ∀ b, t.read b = s.read b) : HoldsBytes base t bytes where
  sp := hsp.trans h.sp
  cell v below hsuffix := (hread _).trans (h.cell v below hsuffix)

/-- The trap leaves the status byte on top of the return address. -/
theorem State.takeTrap_holdsItems (s : State) (w : Addr) :
    HoldsItems s.sp (s.takeTrap w) [.byte (s.p.pack true), .word w] := by
  have hword : HoldsItems s.sp (s.push16 w) [.word w] :=
    HoldsItems.push16 (holdsBytes_nil s) w (Nat.le_of_ble_eq_true rfl)
  have htrap := hword.push (s.p.pack true) (Nat.le_of_ble_eq_true rfl)
  exact htrap.congr (s.takeTrap_sp w) (s.takeTrap_read_eq w)

/-- The return takes the flags and PC from the two items on top of the stack. -/
theorem HoldsItems.returnFromTrap {v : Byte} {w : Addr} {items : List StackItem}
    (h : HoldsItems base s (.byte v :: .word w :: items)) :
    s.returnFromTrap.p = Flags.unpack v ∧ s.returnFromTrap.pc = w := by
  have hrest : HoldsItems base s.pop.2 (.word w :: items) := HoldsBytes.pop_state h
  exact ⟨congrArg Flags.unpack (HoldsBytes.pop_value h), hrest.pop16_value⟩

end

end Sys2Proof.Machine

namespace Sys2Proof.Proofs

open Sys2Proof.Machine Sys2Proof.Stmt

/-- Settles O53: RTI takes from the stack what BRK left on it, the status byte with B set and the return address. -/
theorem brkThenRtiReturns : Obligations.BrkThenRtiReturns := by
  intro s
  have hstack : HoldsItems s.sp (s.afterBrk.advance 1) [.byte (s.p.pack true), .word (s.pc + 2)] :=
    ((s.advance 2).takeTrap_holdsItems (s.pc + 2)).congr rfl fun _ => rfl
  obtain ⟨hp, hpc⟩ := hstack.returnFromTrap
  refine ⟨s.afterBrk, (s.afterBrk.advance 1).returnFromTrap.stall 6, exec_brk s, exec_rti _, hpc, ?registers, ?flags⟩
  case registers => simp [SameRegisters, State.afterBrk]
  case flags => rw [State.stall_p, hp, Flags.unpack_pack]

end Sys2Proof.Proofs

/-! ### The one fault of a step (R300, R301, R303, R304) -/

namespace Sys2Proof.Machine

open Sys2Proof.Stmt

section

variable {par : Params} {s t : State}

/-- No instruction raises a fault: it completes, or it is a refused ADC or SBC. -/
theorem execWith_ne_fault (par : Params) (i : Instr) (s : State) (f : Fault) : execWith par i s ≠ .fault f := by
  rcases execWith_cases par i s with e | ⟨_, _, e⟩ | ⟨_, e⟩ | ⟨_, _, e⟩ <;> rw [e]
  · obtain ⟨t, hnext, _⟩ := exec_completesAt i s
    rw [hnext]
    exact nofun
  · exact nofun
  · exact nofun
  · exact nofun

/-- A fetch fails only where the byte at PC is no opcode, or the opcode of no implemented instruction (R301). -/
theorem unknown_of_fetch_error {r : OpcodeFault} (h : fetch par s = .error r) :
    r.op ∈ undocumented ∨ par.implemented r.op = false := by
  rw [fetch_error h]
  by_contra hknown
  obtain ⟨hdoc, himp⟩ := not_or.1 hknown
  obtain ⟨f, hf⟩ := Option.ne_none_iff_exists'.1 (mt (formatOf_eq_none_iff _).1 hdoc)
  obtain ⟨i, rest, hread, hop⟩ := Format.read_two (formatOf_encodes hf) (s.read (s.pc + 1)) (s.read (s.pc + 2))
  have hdecode : decode s.fetchBytes = .ok (i, rest) := by rw [State.fetchBytes_eq, decode_of_formatOf hf, hread]
  have hi : i.wellFormed par = true := by rwa [Instr.wellFormed, hop, ← Bool.not_eq_false]
  rw [fetch_of_decode hdecode hi] at h
  cases h

/-- What holds where the fault `f` stops a core that was in the run state `run`: the core is halted with the record of
`f`, and it was before, or PC is at the unknown opcode (R301, R303, R304). -/
def FaultLeaves (par : Params) (run : RunState) (f : Fault) (t : State) : Prop :=
  ∃ r, f = .unimplementedOpcode r ∧ t.run = .halted r ∧
    (run = .halted r ∨
      (run = .running ∧ r.addr = t.pc ∧ r.op = t.read r.addr ∧ t.pending = 0 ∧
        (r.op ∈ undocumented ∨ par.implemented r.op = false)))

theorem stepIn_of_refused {i : Instr} {r : Refusal} (hrun : s.run = .running) (hp : s.pending = 0)
    (hf : fetch par s = .ok i) (hi : execWith par i s = .refused r) : stepIn par s = (.stopped (.refusal r), s) := by
  simp only [stepIn, stepCallWith, hrun, hp, if_true, fetchStep, hf, hi]

theorem stepIn_fault {f : Fault} (h : stepIn par s = (.stopped (.fault f), t)) : FaultLeaves par s.run f t := by
  cases hrun : s.run with
  | halted r =>
    cases (stepIn_of_halted hrun).symm.trans h
    exact ⟨r, rfl, hrun, .inl rfl⟩
  | running =>
    by_cases hp : s.pending = 0
    case neg => cases (stepIn_of_stall hrun hp).symm.trans h
    cases hf : fetch par s with
    | error r =>
      cases (stepIn_of_fetch_error hrun hp hf).symm.trans h
      have hunknown := unknown_of_fetch_error hf
      obtain rfl := fetch_error hf
      exact ⟨_, rfl, rfl, .inr ⟨rfl, rfl, rfl, hp, hunknown⟩⟩
    | ok i =>
      cases hi : execWith par i s with
      | next u => cases (stepIn_of_next hrun hp hf hi).symm.trans h
      | fault f => exact absurd hi (execWith_ne_fault par i s f)
      | refused r => cases (stepIn_of_refused hrun hp hf hi).symm.trans h

/-- A step that does not stop leaves the core running as it was. -/
theorem stepIn_run_of_not_stopped (h : ∀ why, (stepIn par s).1 ≠ .stopped why) : (stepIn par s).2.run = s.run := by
  rcases stepIn_cases par s with
    ⟨_, _, e⟩ | ⟨_, _, e⟩ | ⟨_, _, ⟨_, _, e⟩ | ⟨_, _, _, hi, e⟩ | ⟨_, _, _, _, e⟩⟩ <;> rw [e] at h
  · exact absurd rfl (h _)
  · rw [e, State.setPending_run]
  · exact absurd rfl (h _)
  · rw [e, (execWith_ran hi).keeps.run]
  · exact absurd rfl (h _)

/-- A run faults at its first stopping step, and until then the run state stays what it was. -/
theorem runFor_fault {n : Nat} {f : Fault} (h : (runFor par n s).stop = some (.fault f)) :
    FaultLeaves par s.run f (runFor par n s).state := by
  induction n generalizing s with
  | zero => cases h
  | succ n ih =>
    by_cases hstop : ∃ why, (stepIn par s).1 = .stopped why
    · obtain ⟨why, hwhy⟩ := hstop
      rw [runFor_succ_of_stopped (Prod.ext hwhy rfl)] at h ⊢
      cases h
      exact stepIn_fault (Prod.ext hwhy rfl)
    · rw [runFor_succ_of_next (not_exists.1 hstop)] at h ⊢
      rw [← stepIn_run_of_not_stopped (not_exists.1 hstop)]
      exact ih h

end

end Sys2Proof.Machine

namespace Sys2Proof.Proofs

open Sys2Proof.Machine

/-- Settles O17: `execWith_ne_fault` and the frame of every instruction, and `runFor_fault` by induction on the run. -/
theorem noInstructionFaultsAndRunStays : Obligations.NoInstructionFaultsAndRunStays :=
  ⟨fun par i s => ⟨execWith_ne_fault par i s, fun _ h => (execWith_ran h).keeps.run⟩,
    fun _ _ _ h => (exec_ran h).keeps.run, fun _ _ _ _ h => runFor_fault h⟩

end Sys2Proof.Proofs

/-! ### The host operations and the invariant (R315, R316) -/

namespace Sys2Proof.Machine

section

variable {s : State}

/-- With nothing pending, the invariant is the canonical form of memory. -/
theorem State.inv_of_pending_eq_zero (hmem : s.mem.wf) (hp : s.pending = 0) : s.Inv :=
  ⟨hmem, hp ▸ Nat.zero_le 6, fun _ => hp⟩

theorem State.Inv.load (hs : s.Inv) (par : Params) (image : List Byte) : (load par image s).2.Inv := by
  cases himage : imageProblem image with
  | some reason => rwa [load_of_problem himage]
  | none =>
    refine State.inv_of_pending_eq_zero ?_ ?_ <;> rw [load_of_none himage]
    · exact State.placeBank_mem_wf hs.1 0 (programBank image)
    · rfl

theorem State.Inv.inject (hs : s.Inv) (par : Params) (bytes : List Byte) : (inject par bytes s).2.Inv := by
  cases hrun : s.run with
  | halted f => simpa only [Machine.inject, hrun] using hs
  | running =>
    rw [inject_of_running hrun rfl]
    have hplaced : ((s.writeBytes s.pc bytes).setPending 0).Inv :=
      State.inv_of_pending_eq_zero (State.writeBytes_mem_wf hs.1 s.pc bytes) rfl
    exact State.inv_of_pending_eq_zero (hplaced.stepIn par).1 rfl

end

end Sys2Proof.Machine

namespace Sys2Proof.Proofs

open Sys2Proof.Machine

/-- Settles O4: a reset, alone or after a load, and `inject` leave nothing pending; a run makes steps; a bus write
reaches memory alone. -/
theorem hostOperationsKeepInvariant : Obligations.HostOperationsKeepInvariant := by
  intro par s hs
  refine ⟨State.inv_of_pending_eq_zero hs.1 rfl, hs.load par, hs.inject par,
    runFor_state_of (fun _ hu => hu.stepIn par) hs, fun a v => ?_⟩
  have ⟨hmem, hpending, hrun⟩ := hs
  exact ⟨State.write_mem_wf hmem a v, hpending, hrun⟩

end Sys2Proof.Proofs
end

section
/-! PROOFS of the family `70_reset_and_hazards.md`: reset and the first fetch after it, the cost of every instruction,
and what no instruction reads. -/

/-! ### `reset()` (R331, R333) -/

namespace Sys2Proof.Proofs

open Sys2Proof.Machine

/-- Settles O1: PC is the word at the reset vector, as a number. -/
theorem resetSetsSpPcPendingRun : Obligations.ResetSetsSpPcPendingRun := by
  intro par s
  rw [← concat_eq_ofNat]
  exact ⟨rfl, rfl⟩

/-- Settles O19: reset leaves a core that is ready to fetch at the vector's word. -/
theorem resetThenFetchAtTheVector : Obligations.ResetThenFetchAtTheVector := by
  intro s i rest hdecode hi
  have hbytes : (hostReset Config.params s).fetchBytes =
      s.readBytes (concat (s.read 0xFFFD) (s.read 0xFFFC)) 3 := rfl
  exact step_of_fetch rfl rfl (fetch_of_decode (hbytes ▸ hdecode) hi)

/-- Settles O16: `exec_completesAt`, instruction by instruction. -/
theorem everyInstructionCompletesAtItsCost : Obligations.EveryInstructionCompletesAtItsCost :=
  exec_completesAt

end Sys2Proof.Proofs

/-! ### What no instruction reads (R341, `60_exceptions.md` R306)

Every meaning is a chain of the operations on the state, of which none looks at `pending` or `run`, and I is looked at
where the status byte is pushed alone. -/

namespace Sys2Proof.Machine

section

variable {s t : State} {i : Instr}

/-- A branch changes PC and `pending` alone, to values it takes from PC: any difference `g` in the other fields goes
through it. -/
theorem branchExec_next_of {cycles : Nat} {cond : Bool} {d : Byte} {s' : State} {g : State → State}
    (hpc : s'.pc = s.pc) (hg : ∀ w n, (s'.setPc w).stall n = g ((s.setPc w).stall n))
    (h : branchExec cycles cond d s = .next t) : branchExec cycles cond d s' = .next (g t) := by
  have hnext : s'.branchNext = s.branchNext := congrArg (· + 2) hpc
  have htarget : s'.branchTarget d = s.branchTarget d := congrArg (· + sext16 d) hnext
  rw [branchExec_next] at h ⊢
  rw [hnext, htarget, hg, hg]
  exact h.imp (.imp_right (congrArg g)) (.imp_right (congrArg g))

/-- With another `pending` and run state an instruction does the same: it replaces `pending` by its own cost, and keeps
the run state. -/
theorem exec_setPending_setRun (n : Nat) (r : RunState) (h : exec i s = .next t) :
    exec i { s with pending := n, run := r } = .next { t with run := r } := by
  cases i with
  | bcc | bcs | beq | bne | bmi | bpl | bvc | bvs =>
    exact branchExec_next_of (s := s) (g := fun u => { u with run := r }) rfl (fun _ _ => rfl) h
  | brk =>
    cases h
    rw [exec_brk, State.takeTrap_eq, State.takeTrap_eq]
    rfl
  | _ =>
    -- one path through the operations, and both results compute to the same fields
    cases h
    rfl

/-- `s` with the flag I. -/
def State.setI (s : State) (flag : Bool) : State := s.setP { s.p with i := flag }

/-- CLI, SEI, PLP and RTI replace I, PHP and BRK push it, and to every other instruction it is a flag like any it does
not name (R306). -/
theorem exec_setI (hphp : i ≠ .php) (hbrk : i ≠ .brk) (flag : Bool) (h : exec i s = .next t) :
    ∃ flag', exec i (s.setI flag) = .next (t.setI flag') := by
  cases i with
  | php => exact absurd rfl hphp
  | brk => exact absurd rfl hbrk
  | cli | sei | plp | rti =>
    cases h
    exact ⟨_, rfl⟩
  | bcc | bcs | beq | bne | bmi | bpl | bvc | bvs =>
    exact ⟨flag, branchExec_next_of (s := s) (g := (State.setI · flag)) rfl (fun _ _ => rfl) h⟩
  | _ =>
    cases h
    exact ⟨flag, rfl⟩

end

end Sys2Proof.Machine

namespace Sys2Proof.Proofs

open Sys2Proof.Machine

/-- Settles O57: `exec_setPending_setRun`, with the run state as it was or `pending` as it was, and `exec_setI`. -/
theorem instructionsDoNotReadPendingRunOrI : Obligations.InstructionsDoNotReadPendingRunOrI := by
  intro i s
  refine ⟨fun n => ?pending, fun r t h => exec_setPending_setRun s.pending r h, fun hphp hbrk flag t h => ?flagI⟩
  case pending =>
    obtain ⟨t, hnext, -⟩ := exec_completesAt i s
    have hrun : t.run = s.run := (exec_ran hnext).keeps.run
    have hother : exec i { s with pending := n, run := t.run } = .next t := exec_setPending_setRun n t.run hnext
    rw [hrun] at hother
    exact hother.trans hnext.symm
  case flagI =>
    obtain ⟨flag', hnext⟩ := exec_setI hphp hbrk flag h
    exact ⟨t.setI flag', hnext, rfl⟩

end Sys2Proof.Proofs
end
